-- ==== Sys2Proof/Word.lean ====
section
/-! DEFINITION. The plainest types of the CL-240 model: bytes, texts, dot lines and times. -/

namespace Sys2Proof

/-- One byte of a frame, a message or a text (00_scope 4.6). -/
abbrev Byte := BitVec 8

/-- A text: one byte per character (00_scope 4.6). -/
abbrev Text := List Byte

/-- One dot line of 576 dots (R142, R151): bit `x` of the number is set when dot `x`, counted from 0 at
the left, is black.  The blank line is 0. -/
abbrev DotLine := Nat

/-- A value of the millisecond timebase, 32 bits and wrapping (00_scope 4.4). -/
abbrev Time := BitVec 32

/-- A normalized article code held as its code value, a number below 10^14 (00_scope 4.5). -/
abbrev Code := Nat

/-- The five peripheral bus channels, numbered 0 to 4 (R175). -/
abbrev ChannelId := Fin 5

end Sys2Proof
end

