-- ==== Sys2Proof/Syntax.lean ====
section
/-! DEFINITION. The commands the part takes: one constructor of `Instr` for every row of the table of
operations and events, with the operands the spec gives it.  An enumerated request field whose value may
be one the spec does not list is an `Option`, `none` standing for such a value. -/

namespace Sys2Proof

/-- W0, the produce scale, and W1, the bagging platform (R53). -/
inductive ScaleId
  | w0 | w1
  deriving DecidableEq, Repr, Inhabited

/-- A request field with a default: left out, given with a value, or given with a value that is none of
the field's (R54, R56). -/
inductive Supplied (α : Type)
  | omitted
  | invalid
  | given (value : α)
  deriving DecidableEq, Repr, Inhabited

/-- Drawer policy of the lane configuration (R126). -/
inductive DrawerPolicy
  | onAnyCash | onChangeDue | manualOnly
  deriving DecidableEq, Repr, Inhabited

/-- The values a CONFIG_WRITE carries, as sent (R188). -/
structure ConfigWrite where
  decimals : Nat
  separator : Byte
  drawerPolicy : Option DrawerPolicy
  pulseLength : Nat
  openLimit : Nat
  closeBeforeNext : Option Bool
  bagPct : Nat
  tMin : Nat
  unexpected : Nat
  placeLimit : Nat
  bagAttentionLimit : Nat
  mismatchPromptLimit : Nat
  mismatchAttentionLimit : Nat
  skipLimit : Nat
  lookupLimit : Nat
  captureLimit : Nat
  paymentLimit : Nat
  promptsEnabled : Option Bool
  merchantCopy : Option Bool
  cardFailureLimit : Nat
  requiredChannels : List Nat
  handshakeLimit : Nat
  deriving DecidableEq, Repr, Inhabited

/-- The heat tables of the print mechanism (R152). -/
structure HeatTables where
  thresholds : Vector Int 7
  baseTimes : Vector Nat 8
  factors : Vector Nat 4
  dotLimit : Nat
  deriving DecidableEq, Repr, Inhabited

/-- Role of a bus slot (R175). -/
inductive SlotRole
  | data | status
  deriving DecidableEq, Repr, Inhabited

/-- One entry a SLOT_TABLE_WRITE carries (R175). -/
inductive SlotWrite
  | unused
  | assigned (channel : Nat) (role : Option SlotRole)
  deriving DecidableEq, Repr, Inhabited

/-- What one slot carries in one direction in one bus cycle: a byte and its flags (R175, R177).  In a
STATUS slot the value is the low four bits of the byte. -/
structure SlotSignal where
  byte : Byte
  valid : Bool
  last : Bool
  phase : Bool
  echo : Bool
  refuse : Bool
  deriving DecidableEq, Repr, Inhabited

/-- Code length a range rule matches (R29). -/
inductive RuleLength
  | l8 | l12 | l13 | l14 | any
  deriving DecidableEq, Repr, Inhabited

/-- Action of a range rule (R29). -/
inductive RuleAction
  | embedPrice | embedWeight | direct | refuse
  deriving DecidableEq, Repr, Inhabited

/-- The fields a RANGE_RULE_WRITE carries (R32). -/
structure RuleWrite where
  enabled : Bool
  pre : Text
  length : Option RuleLength
  action : Option RuleAction
  fieldStart : Nat
  fieldDigits : Nat
  deriving DecidableEq, Repr, Inhabited

/-- Kind of an article (R41). -/
inductive ArticleKind
  | counted | weighed
  deriving DecidableEq, Repr, Inhabited

/-- The article record an ARTICLE_FILL carries, as sent (R43). -/
structure ArticleWrite where
  kind : Option ArticleKind
  unitPrice : Nat
  tare : Nat
  expectedWeight : Nat
  tolerance : Nat
  description : Text
  ageRestricted : Bool
  noBag : Bool
  deriving DecidableEq, Repr, Inhabited

/-- The fields an ARTICLE_UPDATE carries (R46). -/
structure ArticleChange where
  unitPrice : Option Nat
  description : Option Text
  tare : Option Nat
  expectedWeight : Option Nat
  tolerance : Option Nat
  deriving DecidableEq, Repr, Inhabited

/-- Mode of an ARTICLE_FLUSH (R49). -/
inductive FlushMode
  | one (code : Text)
  | unpinned
  | all
  deriving DecidableEq, Repr, Inhabited

/-- The fields a CAL_WRITE carries beside its channel number (R54, R56). -/
structure CalWrite where
  zeroOffset : Option Int
  gain : Option Nat
  capacity : Option Nat
  division : Option Nat
  filterLength : Option Nat
  windowLength : Option Nat
  motionBand : Option Nat
  zeroTracking : Supplied Bool
  deriving DecidableEq, Repr, Inhabited

/-- Route class of a card (R100).  REFUSE is a class of table entries only. -/
inductive RouteClass
  | debit | credit | store | gift | refuse
  deriving DecidableEq, Repr, Inhabited

/-- The fields an ISSUER_WRITE carries beside its index (R101). -/
structure IssuerWrite where
  valid : Bool
  low : Text
  high : Text
  minLength : Nat
  maxLength : Nat
  route : Option RouteClass
  deriving DecidableEq, Repr, Inhabited

/-- Which record a SALE_READ names (R25). -/
inductive SaleSelector
  | current | last
  deriving DecidableEq, Repr, Inhabited

/-- The thirteen attention causes (R168). -/
inductive Cause
  | unexpectedItem | bagMismatch | bagTimeout | skipLimit | ageCheck | cardFailures | produceScaleFault
  | baggingScaleFault | drawerForced | drawerJammed | printerFault | peripheralAbsent | saleFull
  deriving DecidableEq, Repr, Inhabited

/-- The actions a CLEAR_ATTENTION may name (R171). -/
inductive ClearAction
  | acceptWeight | itemRemoved | baggingOff | approved | refused | acknowledge
  deriving DecidableEq, Repr, Inhabited

/-- Outcome of a PAYMENT_RESULT (R107). -/
inductive PaymentOutcome
  | approved | partialApproval | declined | error
  deriving DecidableEq, Repr, Inhabited

/-- Entry mode of a card (R95). -/
inductive EntryMode
  | swipe | insert | tap
  deriving DecidableEq, Repr, Inhabited

/-- The contents of a CARD_DATA message, as sent (R95). -/
structure CardData where
  mode : Option EntryMode
  account : Text
  expiry : Text
  service : Option Text
  issuerData : Option (List Byte)
  deriving DecidableEq, Repr, Inhabited

/-- Receipt font (R139). -/
inductive Font
  | a | b
  deriving DecidableEq, Repr, Inhabited

/-- The fifteen kinds of receipt row (R139). -/
inductive RowKind
  | header | saleNo | item | weighed | void | discount | subtotal | cardTender | cashTender | change
  | slipHeader | slipBody | footer | continued | report
  deriving DecidableEq, Repr, Inhabited

/-- The fields a FORMAT_WRITE carries beside its kind (R139); a scale or font that is not one of its
values is refused. -/
structure FormatWrite where
  printed : Bool
  font : Option Font
  widthScale : Nat
  heightScale : Nat
  leftStart : Nat
  rightEnd : Nat
  spacing : Nat
  label : Text
  script : Option Nat
  deriving DecidableEq, Repr, Inhabited

/-- Order of a block move (R144). -/
inductive MoveOrder
  | forward | reverse
  deriving DecidableEq, Repr, Inhabited

/-- One move of a SCRIPT_WRITE, as sent (R144). -/
structure MoveWrite where
  segment : Nat
  firstLine : Nat
  lineCount : Nat
  repeats : Nat
  order : Option MoveOrder
  scale : Nat
  deriving DecidableEq, Repr, Inhabited

/-- The input pins of the part as they stand (R184, R56, R118, R157, 11.6).  `thermistor = none` is an
open thermistor circuit. -/
structure Pins where
  sealOpen : Bool
  firstStrapHigh : Bool
  secondStrapHigh : Bool
  drawerOpen : Bool
  paperPresent : Bool
  paperNearEnd : Bool
  coverClosed : Bool
  cutterHome : Bool
  thermistor : Option Int
  deriving DecidableEq, Repr, Inhabited

/-- One byte received on the lane link, and whether its stop bit was there (R184). -/
structure LineByte where
  byte : Byte
  stopBit : Bool
  deriving DecidableEq, Repr, Inhabited

/-- A reader message as the card path takes it (R95). -/
inductive ReaderMessage
  | cardPresent
  | cardData (data : CardData)
  | cardRemoved
  | keyOk
  | keyCancel
  | readError
  | unknown
  deriving DecidableEq, Repr, Inhabited

/-- A message the card path sends the reader (R96): the readiness, or a PROMPT with the two lines of a
prompt text table entry. -/
inductive ReaderOut
  | ready
  | notReady
  | prompt (line1 line2 : Text)
  deriving DecidableEq, Repr, Inhabited

/-- The commands of the part: the requests of the lane link, the messages of the peripherals, and the
events of its timers, inputs and own blocks.  One constructor per row of the table. -/
inductive Instr
  /-- The reset pin or power-up, with the input pins as they stand (R187, 6 Resets). -/
  | powerOnReset (pins : Pins)
  /-- LANE_RESET request (R191). -/
  | laneReset
  /-- The reset asked for by LANE_RESET takes effect, with the input pins as they stand (R191). -/
  | laneResetTakesEffect (pins : Pins)
  /-- Bytes received on the lane link, up to the one that completes a frame, and whether the seal input shows
  open as they arrive (R184, R185, R56). -/
  | frameReceived (bytes : List LineByte) (sealOpen : Bool := true)
  /-- The last CHECK byte of the oldest outbound frame has been sent (R186). -/
  | outboundFrameSent
  /-- CONFIG_WRITE (R188). -/
  | configWrite (values : ConfigWrite)
  /-- CONFIG_READ (R188). -/
  | configRead
  /-- LANE_READY (R187). -/
  | laneReady
  /-- SET_DATE with a date YYMM (R189). -/
  | setDate (yymm : Nat)
  /-- PROMPT_TEXT_WRITE (R189). -/
  | promptTextWrite (entry : Nat) (line1 line2 : Text)
  /-- PROMPT_TEXT_READ (R189). -/
  | promptTextRead (entry : Nat)
  /-- HEAT_TABLE_WRITE (R152). -/
  | heatTableWrite (tables : HeatTables)
  /-- STATUS_READ, and whether the seal input shows open as it is taken (R190). -/
  | statusRead (sealOpen : Bool := true)
  /-- SLOT_TABLE_WRITE (R175). -/
  | slotTableWrite (slots : Vector SlotWrite 16)
  /-- BUS_READ (R181). -/
  | busRead
  /-- RANGE_RULE_WRITE (R32). -/
  | rangeRuleWrite (number : Nat) (rule : RuleWrite)
  /-- RANGE_RULE_READ (R29). -/
  | rangeRuleRead
  /-- ARTICLE_FILL; `none` is UNKNOWN (R43). -/
  | articleFill (code : Text) (content : Option ArticleWrite)
  /-- ARTICLE_UPDATE (R46). -/
  | articleUpdate (code : Text) (change : ArticleChange)
  /-- ARTICLE_PIN (R47). -/
  | articlePin (code : Text)
  /-- ARTICLE_UNPIN (R47). -/
  | articleUnpin (code : Text)
  /-- ARTICLE_PROBE (R48). -/
  | articleProbe (code : Text)
  /-- ARTICLE_FLUSH (R49). -/
  | articleFlush (mode : FlushMode)
  /-- TALLY_PUSH (R52). -/
  | tallyPush
  /-- The TALLY_REPORT the cache is waiting with is queued and its work goes on (R50). -/
  | cacheWorkResumes
  /-- CAL_WRITE, and whether the seal input shows open as it is taken (R56). -/
  | calWrite (channel : Nat) (record : CalWrite) (sealOpen : Bool := true)
  /-- The nonvolatile write ends; the operand is whether the seal input then shows open (R57). -/
  | calWriteComplete (sealOpen : Bool := true)
  /-- CAL_READ, and whether the seal input shows open as it is taken (R58). -/
  | calRead (channel : Nat) (sealOpen : Bool := true)
  /-- ZERO (R64). -/
  | zero (channel : Nat)
  /-- TARE with operation 1 (take) or 0 (clear) (R66). -/
  | tare (channel : Nat) (operation : Nat)
  /-- WEIGHT_READ (R73). -/
  | weightRead (channel : Nat)
  /-- ISSUER_WRITE (R101). -/
  | issuerWrite (index : Nat) (entry : IssuerWrite)
  /-- ISSUER_READ (R101). -/
  | issuerRead (index : Nat)
  /-- TILL_READ (R129). -/
  | tillRead
  /-- TILL_READ_ZERO (R129). -/
  | tillReadZero
  /-- ATTENTION_READ (R173). -/
  | attentionRead
  /-- KEYED_CODE (R7). -/
  | keyedCode (code : Text) (quantity : Nat)
  /-- BEGIN_PAYMENT (R12). -/
  | beginPayment
  /-- RESUME_SCANNING (R13). -/
  | resumeScanning
  /-- VOID_LINE (R14). -/
  | voidLine (number : Nat)
  /-- DISCOUNT (R16). -/
  | discount (amount : Nat) (text : Text) (target : Option Nat)
  /-- CASH_TENDER (R17). -/
  | cashTender (amount : Nat)
  /-- CANCEL_SALE (R22). -/
  | cancelSale
  /-- NO_RECEIPT (R20, R136). -/
  | noReceipt
  /-- SALE_READ (R25). -/
  | saleRead (selector : SaleSelector) (first count : Nat)
  /-- SKIP_BAG (R88). -/
  | skipBag
  /-- CLEAR_ATTENTION (R171). -/
  | clearAttention (cause : Option Cause) (action : Option ClearAction)
  /-- DRAWER_NO_SALE (R127). -/
  | drawerNoSale
  /-- PAYMENT_RESULT (R107). -/
  | paymentResult (sale attempt : Nat) (outcome : Option PaymentOutcome) (amount : Nat) (approval : Option Text)
  /-- CANCEL_CONFIRMED (R112). -/
  | cancelConfirmed (sale attempt : Nat)
  /-- REPRINT (R135). -/
  | reprint
  /-- TEXT_JOB (R135). -/
  | textJob (lines : List Text)
  /-- SEGMENT_JOB (R135). -/
  | segmentJob (segment : Nat)
  /-- JOB_LIST (R135). -/
  | jobList
  /-- GLYPH_WRITE: the glyph's rows of dots from the top, bit `x` of a row its dot `x` (R142). -/
  | glyphWrite (font : Option Font) (position : Byte) (rows : List Nat)
  /-- GLYPH_READ (R142). -/
  | glyphRead (font : Option Font) (position : Byte)
  /-- FORMAT_WRITE (R139). -/
  | formatWrite (kind : Option RowKind) (entry : FormatWrite)
  /-- FORMAT_READ (R139). -/
  | formatRead (kind : Option RowKind)
  /-- CUT_FEED_WRITE (R139). -/
  | cutFeedWrite (length : Nat)
  /-- TEMPLATE_WRITE (R143). -/
  | templateWrite (segment lineCount : Nat) (lines : List DotLine)
  /-- TEMPLATE_LINES (R143). -/
  | templateLines (segment firstLine : Nat) (lines : List DotLine)
  /-- TEMPLATE_CLEAR (R143). -/
  | templateClear
  /-- SCRIPT_WRITE (R144). -/
  | scriptWrite (script : Nat) (moves : List MoveWrite)
  /-- SCRIPT_READ (R144). -/
  | scriptRead (script : Nat)
  /-- RESUME_PRINT (R159). -/
  | resumePrint
  /-- PRINTER_READ (R160). -/
  | printerRead
  /-- A frame addressed to 12h, 13h or 14h: `aux = 0` is channel 2, 1 channel 3, 2 channel 4 (R182). -/
  | channelFrame (aux : Fin 3) (payload : List Byte)
  /-- One bus cycle, with what the peripherals put into the 16 slots (R175). -/
  | busCycle (up : Vector SlotSignal 16)
  /-- A value seen in three cycles in a row becomes a channel's filtered inbound status (R176). -/
  | inboundStatusChange (channel : ChannelId) (value : BitVec 4)
  /-- The handshake limit of a presented group runs out (R178). -/
  | handshakeLimitExpiry (channel : ChannelId)
  /-- A channel's abandon count reaches 3 (R180, R181). -/
  | abandonLimitReached (channel : ChannelId)
  /-- A complete inbound message waiting for the link goes up (R182). -/
  | uplinkMessageHandedOn (channel : ChannelId)
  /-- A reader message the card path was holding joins channel 1's transmit queue (R96). -/
  | readerMessageSent
  /-- The display message the attention unit was holding joins channel 2's transmit queue (R166). -/
  | displayMessageSent
  /-- A scanner code message, given as the bytes after its 43h (R28, R34). -/
  | codeMessage (code : Text)
  /-- A scanner message that is no code message is passed up the link (R28, R182). -/
  | scannerMessageUplink (message : List Byte)
  /-- The deadline of a listed lookup code expires (R40). -/
  | lookupExpiry (code : Code)
  /-- A READY head is offered to the sale record unit (R37). -/
  | headOffered
  /-- The hold time of a tone has passed (R38). -/
  | toneHoldEnd
  /-- The capture limit expires (R77). -/
  | captureTimerExpiry
  /-- An unbroken run of MOTION readings passes 1,000 ms (R76). -/
  | captureMotionRun
  /-- A converter sample arrives (R53). -/
  | converterSample (channel : ScaleId) (sample : BitVec 24)
  /-- The sample whose average is the hundredth of a tracking run (R65). -/
  | zeroTracking (channel : ScaleId) (sample : BitVec 24)
  /-- The third rail sample in a row arrives (R70). -/
  | railFault (channel : ScaleId) (sample : BitVec 24)
  /-- 100 ms have passed without a sample (R70). -/
  | absenceTimerExpiry (channel : ScaleId)
  /-- The tenth in-range sample in FAULT arrives (R70). -/
  | faultRecovery (channel : ScaleId) (sample : BitVec 24)
  /-- The place limit expires (R84). -/
  | placeTimerExpiry
  /-- The bag attention limit expires (R84). -/
  | bagAttentionTimerExpiry
  /-- The mismatch prompt limit expires in MISMATCH (R85). -/
  | mismatchPromptTimerExpiry
  /-- The mismatch attention limit expires in MISMATCH (R85). -/
  | mismatchAttentionTimerExpiry
  /-- The mismatch prompt limit expires in UNEXPECTED (R87). -/
  | unexpectedTimerExpiry
  /-- Reader message CARD_PRESENT (R98). -/
  | cardPresent
  /-- Reader message CARD_DATA (R98). -/
  | cardData (data : CardData)
  /-- The built payment request that was waiting is queued (R106). -/
  | paymentRequest
  /-- Reader message CARD_REMOVED (R98). -/
  | cardRemoved
  /-- Reader message READ_ERROR (R102). -/
  | readError
  /-- Reader message KEY with key CANCEL (R110). -/
  | keyCancel
  /-- Reader message KEY with key OK (R97). -/
  | keyOk
  /-- A reader message of an unknown kind (R95). -/
  | unknownReaderMessage
  /-- The payment deadline expires (R113). -/
  | paymentDeadlineExpiry
  /-- The 3,000 ms of a reader event prompt end (R96). -/
  | readerPromptExpiry
  /-- A pending open begins its pulse (R125). -/
  | pendingOpenPulse
  /-- The pulse timer expires (R120). -/
  | pulseTimerExpiry
  /-- The opening timer expires (R121). -/
  | openingTimerExpiry
  /-- The debounced switch shows open (R119). -/
  | switchShowsOpen
  /-- The debounced switch shows closed (R119, R122). -/
  | switchShowsClosed
  /-- The open timer expires (R122). -/
  | openTimerExpiry
  /-- The oldest QUEUED job starts composing (R134). -/
  | compositionStart
  /-- The composer's next element finds its room and is written (R146). -/
  | ringElementWritten
  /-- The motor step of the line in progress ends (R151). -/
  | dotLineEnd
  /-- The cutter returns home (R156). -/
  | cutEnd
  /-- 500 ms have passed since the cut began; the operand is what the cutter home input shows (R156). -/
  | cutJamExpiry (cutterHome : Bool)
  /-- A thermistor reading; `none` is OPEN (R153). -/
  | thermistorReading (reading : Option Int)
  /-- The third OPEN thermistor reading in a row (R153, R157). -/
  | thermistorOpenFault
  /-- The paper present input takes a new level (R157). -/
  | paperPresentChange (level : Bool)
  /-- The cover closed input takes a new level (R157). -/
  | coverClosedChange (level : Bool)
  /-- The paper near-end input takes a new level (R157). -/
  | paperNearEndChange (level : Bool)
  /-- The event prompt's 3,000 ms timer expires (R165). -/
  | eventPromptExpiry
  /-- Bytes received on the lane link, up to the one that drops the frame in assembly (R184). -/
  | frameDropped (bytes : List LineByte)
  /-- The cutter home input takes a new level (R157, R158). -/
  | cutterHomeChange (level : Bool)
  deriving DecidableEq, Repr, Inhabited

/-- What a frame to an address is (R185): a KIND that is no request of the address, a payload of the wrong length
for the request, or a request. -/
inductive FrameContent
  | unknownKind
  | wrongLength
  | request (command : Instr)
  deriving DecidableEq, Repr, Inhabited

end Sys2Proof
end

