-- ==== Sys2Proof/Decode.lean ====
section
/-! DEFINITION. The command a word of the table spells.  The manual gives the commands no bits: its table of
operations and events has no bit field for any row, and the byte layouts of the requests are not given
(00_scope 4.9, R185).  So no word spells a command. -/

namespace Sys2Proof

/-- The command spelled by a word of the table's bits: none, since no row of the table gives bits. -/
def decodeTableWord (_nbits _w : Nat) : Option Instr := none

end Sys2Proof
end

