-- ==== Sys2Proof/Config.lean ====
section
/-! DEFINITION. What one part fixes: the sizes and limits of the manual, the stored lane configuration and
calibration records with their defaults, and the free values the manual leaves open, each an opaque
constant nothing can evaluate. -/

namespace Sys2Proof

/-- The lane configuration record as stored (R188). -/
structure LaneConfig where
  decimals : Nat
  separator : Byte
  drawerPolicy : DrawerPolicy
  pulseLength : Nat
  openLimit : Nat
  closeBeforeNext : Bool
  bagPct : Nat
  tMin : Nat
  unexpected : Nat
  placeLimit : Nat
  bagAttentionLimit : Nat
  mismatchPromptLimit : Nat
  mismatchAttentionLimit : Nat
  skipLimit : Nat
  lookupLimit : Nat
  captureLimit : Nat
  paymentLimit : Nat
  promptsEnabled : Bool
  merchantCopy : Bool
  cardFailureLimit : Nat
  requiredChannels : List ChannelId
  handshakeLimit : Nat
  deriving DecidableEq, Repr, Inhabited

/-- A calibration record: the fields of R54 but the check value, which `Machine.CalStore` holds as whether
it passes (log entry 4). -/
structure CalRecord where
  zeroOffset : Int
  gain : Nat
  capacity : Nat
  division : Nat
  filterLength : Nat
  windowLength : Nat
  motionBand : Nat
  zeroTracking : Bool
  count : Nat
  deriving DecidableEq, Repr, Inhabited

/-- The six states of the card session (R97). -/
inductive SessionState
  | noCard | preRead | checked | awaitResult | cancelAsked | done
  deriving DecidableEq, Repr, Inhabited

/-- The events a CARD_STATE notice names (R115). -/
inductive CardEvent
  | present | removed | readError | keyOk | keyCancel | checkFailed | declined | preRead | discarded
  | requested | ended | busy | ignored | unknownMessage
  deriving DecidableEq, Repr, Inhabited

/-- What asked for a release (R118). -/
inductive OpenOrigin
  | settle | noSale | retry
  deriving DecidableEq, Repr, Inhabited

namespace Config

/-- Frames the outbound queue holds (R186). -/
def outboundCapacity : Nat := 16
/-- Replies that may wait for room (R186). -/
def waitingReplies : Nat := 4
/-- Notices one block may hold waiting (R186). -/
def waitingNotices : Nat := 16
/-- Entries of the scan queue (R33). -/
def scanCapacity : Nat := 4
/-- Lines of a sale (R2). -/
def lineCapacity : Nat := 120
/-- CARD_TENDER lines of a sale (R18). -/
def cardTenderCapacity : Nat := 4
/-- Jobs of the print job queue (R132). -/
def jobCapacity : Nat := 8
/-- Dot lines of the print image ring (R146). -/
def ringCapacity : Nat := 384
/-- Dot lines of template memory (R143). -/
def templateCapacity : Nat := 640
/-- Messages of a channel's transmit queue (R182). -/
def transmitCapacity : Nat := 4
/-- Bytes of a peripheral message (R182). -/
def messageCapacity : Nat := 256
/-- Largest payload of a lane link frame (R184). -/
def payloadCapacity : Nat := 1024
/-- Highest line amount offered from the scan queue (R10). -/
def maxLineAmount : Int := 9999999
/-- Highest item total (R4). -/
def maxItemTotal : Int := 99999999
/-- Bound of a tally (R51). -/
def maxTally : Int := 2000000000

/-- The lane configuration at power-on reset (R188). -/
def laneDefaults : LaneConfig where
  decimals := 2
  separator := 0x2E#8
  drawerPolicy := .onChangeDue
  pulseLength := 80
  openLimit := 60
  closeBeforeNext := false
  bagPct := 5
  tMin := 10
  unexpected := 20
  placeLimit := 8000
  bagAttentionLimit := 25000
  mismatchPromptLimit := 1500
  mismatchAttentionLimit := 8000
  skipLimit := 2
  lookupLimit := 1500
  captureLimit := 3000
  paymentLimit := 45000
  promptsEnabled := true
  merchantCopy := false
  cardFailureLimit := 3
  requiredChannels := [0, 1]
  handshakeLimit := 50

/-- The heat tables at power-on reset (R152). -/
def heatDefaults : HeatTables where
  thresholds := #v[15, 25, 35, 45, 55, 62, 68]
  baseTimes := #v[1500, 1350, 1200, 1050, 900, 780, 680, 600]
  factors := #v[20, 17, 14, 12]
  dotLimit := 192

/-- The input pins `Machine.State.reset` is taken with (DESIGN CHOICE, log entry 2): the seal open, both
straps low, the drawer home, paper present, the cover closed, the cutter home, the head at 25 °C. -/
def resetPins : Pins where
  sealOpen := true
  firstStrapHigh := false
  secondStrapHigh := false
  drawerOpen := false
  paperPresent := true
  paperNearEnd := false
  coverClosed := true
  cutterHome := true
  thermistor := some 25

/-- The fields read from a blank calibration memory (DESIGN CHOICE, log entry 4; the record fails its
check value, so no weight is computed from them). -/
def blankRecord : CalRecord := ⟨0, 0, 0, 0, 0, 0, 0, false, 0⟩

/-- The version STARTED carries (R187); the manual gives no value.  Free value, log entry 3. -/
opaque partVersion : Nat

/-- The request, with its fields, that a payload spells under the KIND of a request of one of the addresses 00h to 03h,
or `none` where it is shorter or longer than the fields require: the manual gives no payload layouts (00_scope 4.9, R185).
Arguments: ADDR, KIND, payload.  Free value, log entry 5. -/
opaque requestOf : Byte → Byte → List Byte → Option Instr

/-- The reader message a message of channel 1 stands for: the manual gives no byte layout (R95).  Free
value, log entry 6. -/
opaque readerMessageOf : List Byte → ReaderMessage

/-- The first byte of a message to the reader, and the bytes after it: the manual gives no byte layout
(R96).  Free values, log entry 6. -/
opaque readerFirstByte : ReaderOut → Byte
opaque readerFurtherBytes : ReaderOut → List Byte

/-- Whether A5h with a missing stop bit is taken as SYNC in phase HUNT; R184 speaks of stop bits in LENGTH
and BODY only.  Free value, log entry 7. -/
opaque syncWithoutStopBit : Bool

/-- The fields a power-on reset finds after cutting off a nonvolatile write, from the record being
replaced and the record being written; R57 says only that the check value fails.  Free value, log
entry 8. -/
opaque tornRecord : CalRecord → CalRecord → CalRecord

/-- The base time of a line started while the temperature is OPEN and there is no band (R153, R154).  Free
value, log entry 9. -/
opaque baseTimeWithoutBand : Nat

/-- The event named by a CARD_STATE notice for a change of session state that no reader message makes and
R115 names no event for.  Free value, log entry 10. -/
opaque unnamedCardEvent : SessionState → CardEvent

/-- The echo flag the part sends on a channel whose echo value is still unset; R179 gives it no value.  Free
value, log entry 13. -/
opaque echoWhileUnset : ChannelId → Bool

/-- The number that stands for an open origin in the detail of DRAWER_JAMMED (R121); the manual gives the
origins no numbers.  Free value, log entry 12. -/
opaque originDetail : OpenOrigin → Int

/-- What stands between the quantity or weight and the amount in the second row of a line text (R11).
Free value, log entry 11. -/
opaque lineTextGap : Text

end Config

end Sys2Proof
end

