-- ==== Sys2Proof/Machine/State.lean ====
section
/-! DEFINITION. The state of the part: every block's own state as its chapter lists it, the frames it
queues, the commands waiting, and the state right after a power-on reset. -/

namespace Sys2Proof.Machine

/-! ## Sale record (chapter 1) -/

/-- Sale state (R1); `opened` is OPEN. -/
inductive SaleState
  | idle | opened | paying | settled
  deriving DecidableEq, Repr, Inhabited

/-- Kind of a line (R2). -/
inductive LineKind
  | item | weighed | void | discount | cardTender | cashTender
  deriving DecidableEq, Repr, Inhabited

/-- Bag state of a line (R2). -/
inductive BagState
  | none | await | bagged | skipped | notRequired
  deriving DecidableEq, Repr, Inhabited

/-- Card part of a CARD_TENDER line; there is no field for a full account number (R2, R3). -/
structure CardPart where
  masked : Text
  route : RouteClass
  mode : EntryMode
  approval : Text
  partialFlag : Bool
  deriving DecidableEq, Repr, Inhabited

/-- A line record (R2). -/
structure SaleLine where
  number : Nat
  kind : LineKind
  code : Option Code := none
  description : Text := []
  quantity : Option Nat := none
  weight : Option Int := none
  unitPrice : Option Nat := none
  amount : Int
  voided : Bool := false
  ageRestricted : Bool := false
  noBag : Bool := false
  overridden : Bool := false
  bag : BagState := .none
  expected : Option Int := none
  tolerance : Option Int := none
  target : Option Nat := none
  card : Option CardPart := none
  deriving DecidableEq, Repr, Inhabited

/-- The sale's claim on the receipt composer (1.1). -/
inductive ReceiptState
  | none | waitingRoom | queued | composed | suppressed
  deriving DecidableEq, Repr, Inhabited

/-- Parts of a SALE_RECEIPT job (R132): the customer copy, and one merchant slip per line number. -/
structure JobParts where
  customer : Bool
  slips : List Nat
  deriving DecidableEq, Repr, Inhabited

/-- A sale record (1.1).  `claim` holds the parts wanted while the receipt state is WAITING_ROOM (R20,
R136). -/
structure SaleRecord where
  state : SaleState
  number : Nat
  lines : List SaleLine
  receiptSuppressed : Bool
  cancelPending : Bool
  change : Int
  receipt : ReceiptState
  claim : Option JobParts
  deriving DecidableEq, Repr, Inhabited

/-- Item total, tender total and balance of a sale (R4). -/
structure Totals where
  item : Int
  tender : Int
  balance : Int
  deriving DecidableEq, Repr, Inhabited

/-! ## Scan intake and the article cache (chapter 2) -/

/-- The field an EMBED rule reads (R29). -/
structure EmbedField where
  start : Nat
  digits : Nat
  deriving DecidableEq, Repr, Inhabited

/-- A range rule as stored (R29). -/
structure RangeRule where
  enabled : Bool
  pre : Text
  length : RuleLength
  action : RuleAction
  field : Option EmbedField
  deriving DecidableEq, Repr, Inhabited

/-- An article's fields (R41). -/
structure Article where
  kind : ArticleKind
  unitPrice : Nat
  tare : Nat
  expectedWeight : Nat
  tolerance : Nat
  description : Text
  ageRestricted : Bool
  noBag : Bool
  deriving DecidableEq, Repr, Inhabited

/-- Source of a scan entry (R33). -/
inductive ScanSource
  | scanner | keyed
  deriving DecidableEq, Repr, Inhabited

/-- State of a scan entry (R33). -/
inductive EntryState
  | checking | lookupPending | resolved | capturePending | ready
  deriving DecidableEq, Repr, Inhabited

/-- The rule applied to an entry: its number and its action (R33). -/
structure AppliedRule where
  number : Nat
  action : RuleAction
  deriving DecidableEq, Repr, Inhabited

/-- An entry of the scan queue (R33). -/
structure ScanEntry where
  received : Text
  lookup : Code
  source : ScanSource
  quantity : Nat
  rule : Option AppliedRule
  state : EntryState
  article : Option Article
  embedded : Option Nat
  weight : Option Int
  deriving DecidableEq, Repr, Inhabited

/-- A code of the lookup list (R39).  The deadline is dropped while a fill for the code is being taken
(R40). -/
structure Lookup where
  code : Code
  deadline : Option Time
  noCache : Bool
  deriving DecidableEq, Repr, Inhabited

/-- The capture of the head on W0 (R75, R76): when its timer expires, since when the readings have been
MOTION without a break, and which of its prompts it has raised. -/
structure Capture where
  deadline : Time
  motionSince : Option Time
  placePrompt : Bool
  waitPrompt : Bool
  deriving DecidableEq, Repr, Inhabited

/-- The scanner's gate value (R38). -/
inductive Gate
  | disabled | enabled
  deriving DecidableEq, Repr, Inhabited

/-- A tone on the scanner's status slot (R38, R176). -/
inductive Tone
  | good | reject
  deriving DecidableEq, Repr, Inhabited

/-- Scan intake's state (R29, R33, R38, R39, R75). -/
structure ScanIntake where
  queue : List ScanEntry
  lookups : List Lookup
  rules : Vector RangeRule 4
  capture : Option Capture
  gate : Gate
  tone : Option Tone
  deriving DecidableEq, Repr, Inhabited

/-- A way of a cache set (R41). -/
inductive Way
  | zero | one
  deriving DecidableEq, Repr, Inhabited

/-- A valid cache entry (R41); an invalid way is `none`. -/
structure CacheEntry where
  pinned : Bool
  code : Code
  article : Article
  count : Int
  value : Int
  dirty : Bool
  deriving DecidableEq, Repr, Inhabited

/-- A cache set: two ways and the LRU mark (R41). -/
structure CacheSet where
  way0 : Option CacheEntry
  way1 : Option CacheEntry
  lru : Way
  deriving DecidableEq, Repr, Inhabited

/-- Reason of a TALLY_REPORT (R50). -/
inductive TallyReason
  | settle | evict | overflow | flush | rule | invalidate | push
  deriving DecidableEq, Repr, Inhabited

/-- Reason a record was not cached (R43). -/
inductive UncachedReason
  | direct | pinned
  deriving DecidableEq, Repr, Inhabited

/-- Cache outcome of a fill (R43). -/
inductive FillOutcome
  | cached (set : Fin 256) (way : Way) (replaced : Option Code)
  | notCached (reason : UncachedReason)
  | invalidated
  | none
  deriving DecidableEq, Repr, Inhabited

/-! ## Weighing channels (chapter 3) -/

/-- A calibration record in nonvolatile memory, and whether its check value passes (R54, R55). -/
structure CalStore where
  record : CalRecord
  passes : Bool
  deriving DecidableEq, Repr, Inhabited

/-- Zero status (3.5). -/
inductive ZeroStatus
  | pending | set | failed
  deriving DecidableEq, Repr, Inhabited

/-- Channel state (R62). -/
inductive ScaleState
  | calibrating | nocal | fault | warmup | nozero | over | under | stable | motion
  deriving DecidableEq, Repr, Inhabited

/-- A weighing channel (R53 to R70).  The channel state of R62 is computed from these fields
(`Scale.state`).  `average` is the latest average A, 0 before the first (DESIGN CHOICE, log entry 25). -/
structure Scale where
  store : CalStore
  work : Option CalRecord
  writing : Option CalRecord
  faulted : Bool
  history : List Int
  window : List Int
  average : Int
  zeroStatus : ZeroStatus
  zero : Option Int
  zeroInit : Option Int
  tare : Int
  capturePending : Bool
  railCount : Nat
  recoveryCount : Nat
  trackRun : Nat
  absenceStart : Option Time
  deriving DecidableEq, Repr, Inhabited

/-! ## Bagging check (chapter 4) -/

/-- State of the bagging check (R80). -/
inductive BagCheckState
  | suspended | idle | awaitAdd | awaitRemove | mismatch | unexpected | off
  deriving DecidableEq, Repr, Inhabited

/-- Direction of an expectation, and of a PLACE_ITEM prompt (R80, R162). -/
inductive Direction
  | add | remove
  deriving DecidableEq, Repr, Inhabited

/-- An expectation (R80).  The window is absent for a learning expectation and until B is set (R81,
R82).  `latest` is the latest stable gross since the expectation began (R84). -/
structure Expectation where
  line : Nat
  direction : Direction
  change : Int
  tolerance : Int
  window : Option (Int × Int)
  timerStart : Option Time
  latest : Option Int
  deriving DecidableEq, Repr, Inhabited

/-- The bagging check (R80). -/
structure Bagging where
  state : BagCheckState
  baseline : Option Int
  expectation : Option Expectation
  deviationStart : Option Time
  delta : Option Int
  promptRaised : Bool
  causeRaised : Bool
  skips : Nat
  deriving DecidableEq, Repr, Inhabited

/-! ## Card path (chapter 5) -/

/-- What asked for the cancel of a payment (R97). -/
inductive CancelOrigin
  | key | sale
  deriving DecidableEq, Repr, Inhabited

/-- The full data of a card: account number, expiry, service code and issuer data (R97, R103). -/
structure FullData where
  account : Text
  expiry : Nat
  service : Option Text
  issuerData : Option (List Byte)
  deriving DecidableEq, Repr, Inhabited

/-- What the session keeps of a card from a passing CARD_DATA until NO_CARD (R97). -/
structure CardFace where
  mode : EntryMode
  masked : Text
  route : RouteClass
  deriving DecidableEq, Repr, Inhabited

/-- The fields of a started payment (R97, R105). -/
structure Payment where
  requested : Nat
  tenderIndex : Nat
  attempt : Nat
  deriving DecidableEq, Repr, Inhabited

/-- The card session record (R97). -/
structure Session where
  state : SessionState
  face : Option CardFace
  cardInReader : Bool
  full : Option FullData
  payment : Option Payment
  cancelOrigin : Option CancelOrigin
  deadline : Option Time
  deriving DecidableEq, Repr, Inhabited

/-- An entry of the issuer table (R100). -/
structure IssuerEntry where
  valid : Bool
  low : Nat
  high : Nat
  minLength : Nat
  maxLength : Nat
  route : RouteClass
  deriving DecidableEq, Repr, Inhabited

/-- Kinds of reader prompt (R96). -/
inductive ReaderPromptKind
  | tryCardAgain | cardDeclined | removeCard
  deriving DecidableEq, Repr, Inhabited

/-- The current reader prompt; an event prompt that has been sent has the time its 3,000 ms end, counted from
the last sending (R96). -/
structure ReaderPrompt where
  kind : ReaderPromptKind
  deadline : Option Time
  deriving DecidableEq, Repr, Inhabited

/-- The card path (R96, R97, R100, R102). -/
structure CardPath where
  session : Session
  failures : Nat
  attempts : Nat
  issuers : Vector IssuerEntry 64
  light : BitVec 4
  prompt : Option ReaderPrompt
  waiting : List ReaderOut
  deriving DecidableEq, Repr, Inhabited

/-! ## Drawer (chapter 6) -/

/-- Drawer state (R118); `opened` is OPEN. -/
inductive DrawerState
  | closed | pulsing | openingWait | opened | overdue | jammed | forced
  deriving DecidableEq, Repr, Inhabited

/-- Till tallies (R129). -/
structure TillTallies where
  cashTaken : Nat
  changeGiven : Nat
  noSales : Nat
  opens : Nat
  forced : Nat
  jams : Nat
  deriving DecidableEq, Repr, Inhabited

/-- The drawer controller (R118).  The solenoid is driven exactly in PULSING (`Drawer.solenoid`). -/
structure Drawer where
  state : DrawerState
  switchOpen : Bool
  attempt : Option Nat
  origin : Option OpenOrigin
  pendingOpen : Bool
  pulseDeadline : Option Time
  openingDeadline : Option Time
  openDeadline : Option Time
  till : TillTallies
  deriving DecidableEq, Repr, Inhabited

/-! ## Receipt composer (chapter 7) -/

/-- Kind of a print job (R132). -/
inductive JobKind
  | saleReceipt | reprint | tillReport | text | segment
  deriving DecidableEq, Repr, Inhabited

/-- State of a print job (R132). -/
inductive JobState
  | queued | composing | printing | done | discarded
  deriving DecidableEq, Repr, Inhabited

/-- Content of a print job (R132). -/
inductive JobContent
  | none
  | tallies (values : TillTallies)
  | text (lines : List Text)
  | segment (number : Nat)
  deriving DecidableEq, Repr, Inhabited

/-- A print job (R132). -/
structure Job where
  number : Nat
  kind : JobKind
  state : JobState
  saleNumber : Option Nat
  parts : Option JobParts
  content : JobContent
  templateMissing : Bool
  cuts : Nat
  deriving DecidableEq, Repr, Inhabited

/-- A format table entry (R139). -/
structure FormatEntry where
  printed : Bool
  font : Font
  widthScale : Nat
  heightScale : Nat
  leftStart : Nat
  rightEnd : Nat
  spacing : Nat
  label : Text
  script : Option Nat
  deriving DecidableEq, Repr, Inhabited

/-- A template segment: its start line and its dot lines (R143). -/
structure Segment where
  start : Nat
  lines : List DotLine
  deriving DecidableEq, Repr, Inhabited

/-- A block move as stored (R144). -/
structure BlockMove where
  segment : Nat
  firstLine : Nat
  lineCount : Nat
  repeats : Nat
  order : MoveOrder
  scale : Nat
  deriving DecidableEq, Repr, Inhabited

/-- An element of a composition (R146): a row with its spacing, a script or feed-to-cut line, a move whose
source is missing (R145), or a cut mark. -/
inductive Element
  | row (lines : List DotLine)
  | line (dots : DotLine)
  | missing
  | cut (last : Bool)
  deriving DecidableEq, Repr, Inhabited

/-- The receipt composer (R132, R139, R142 to R147).  `todo` holds the elements of the composition in
progress not yet written. -/
structure Composer where
  jobs : List Job
  composing : Bool
  nextJob : Nat
  formats : Vector FormatEntry 15
  feedToCut : Nat
  glyphsA : Vector (Option (List Nat)) 128
  glyphsB : Vector (Option (List Nat)) 128
  segments : Vector (Option Segment) 16
  freeMark : Nat
  scripts : Vector (List BlockMove) 4
  continuation : List DotLine
  todo : List Element
  deriving DecidableEq, Repr, Inhabited

/-! ## Print mechanism (chapter 8) -/

/-- Printer state (R150). -/
inductive PrinterState
  | ready | printing | pausedHot | suspended | fault
  deriving DecidableEq, Repr, Inhabited

/-- Fault latch of the mechanism (R150). -/
inductive FaultKind
  | cutterJam | thermistorOpen
  deriving DecidableEq, Repr, Inhabited

/-- An element of the print image ring (R151). -/
inductive RingElement
  | line (dots : DotLine) (job : Nat)
  | cut (job : Nat) (last : Bool)
  deriving DecidableEq, Repr, Inhabited

/-- A sub-pass of a line's printing: its history class, the dots it strobes in rising order, and the
strobe time in µs (R154, R155). -/
structure SubPass where
  cls : Nat
  dots : List Nat
  micros : Nat
  deriving DecidableEq, Repr, Inhabited

/-- The element in progress (R150): a dot line of the ring with its job, a continuation line (no job), or a
cut; a line carries the sub-passes decided at its start (R155). -/
inductive InProgress
  | line (dots : DotLine) (job : Option Nat) (passes : List SubPass)
  | cut (job : Nat) (last : Bool)
  deriving DecidableEq, Repr, Inhabited

/-- The print mechanism controller and the ring (R150 to R153). -/
structure Mechanism where
  ring : List RingElement
  inProgress : Option InProgress
  previous : DotLine
  beforePrevious : DotLine
  temperature : Option Int
  band : Option Nat
  openRun : Nat
  hot : Bool
  stopped : Bool
  fault : Option FaultKind
  repeatCut : Bool
  paperPresent : Bool
  paperNearEnd : Bool
  coverClosed : Bool
  cutterHome : Bool
  continuation : List DotLine
  heat : HeatTables
  deriving DecidableEq, Repr, Inhabited

/-! ## Attention unit (chapter 9) -/

/-- The twelve prompt kinds (R162). -/
inductive PromptKind
  | placeItem | weightMismatch | waitWeight | placeOnScale | closeDrawer | removeCard
  | scanAgain | itemUnknown | tryCardAgain | cardDeclined | finishPayment | takeReceipt
  deriving DecidableEq, Repr, Inhabited

/-- A prompt kind with its direction, for PLACE_ITEM (R162). -/
structure Prompt where
  kind : PromptKind
  direction : Option Direction
  deriving DecidableEq, Repr, Inhabited

/-- The display's rest texts (R163). -/
inductive RestText
  | closed | welcome | scanning | attendant
  deriving DecidableEq, Repr, Inhabited

/-- The primary context (R168, R169). -/
structure PrimaryContext where
  raised : Time
  sale : Nat
  line : Nat
  detail : Option Int
  lost : Bool
  deriving DecidableEq, Repr, Inhabited

/-- The age record: sale number and line number AGE_CHECK was raised with (R172). -/
structure AgeRecord where
  sale : Nat
  line : Nat
  deriving DecidableEq, Repr, Inhabited

/-- The attention unit (R162, R168, R172).  The hold is set exactly when the cause list is not empty
(`Attention.hold`).  `silent` holds the prompt kinds whose raise into the slot found prompts disabled
(R167; log entry 20);
`displayWaiting` is the 42-byte display message waiting for room. -/
structure Attention where
  current : Option Prompt
  eventDeadline : Option Time
  conditions : List Prompt
  silent : List PromptKind
  rest : RestText
  displayWaiting : Option (List Byte)
  causes : List Cause
  primary : Option PrimaryContext
  age : Option AgeRecord
  deriving DecidableEq, Repr, Inhabited

/-! ## Peripheral bus (chapter 10) -/

/-- A slot table entry (R175). -/
inductive Slot
  | unused
  | assigned (channel : ChannelId) (role : SlotRole)
  deriving DecidableEq, Repr, Inhabited

/-- A message of a transmit queue: bytes as given, or a message to the reader (log entry 6). -/
inductive TxMessage
  | bytes (content : List Byte)
  | reader (message : ReaderOut)
  deriving DecidableEq, Repr, Inhabited

/-- The group the part presents: the next bytes of its message and whether they end it, or an abort
(R177, R178). -/
inductive Group
  | data (bytes : List Byte) (last : Bool)
  | abort
  deriving DecidableEq, Repr, Inhabited

/-- One channel of the peripheral bus (R176, R178, R179, R180, R182). -/
structure Channel where
  transmit : List TxMessage
  phase : Bool
  offset : Nat
  presented : Option Group
  cycles : Nat
  abortOwed : Bool
  echo : Option Bool
  refusing : Bool
  assembling : List Byte
  thirdComplete : Bool
  complete : List (List Byte)
  filtered : BitVec 4
  candidate : BitVec 4
  run : Nat
  wire : BitVec 4
  wireCycles : Nat
  nextWire : Option (BitVec 4)
  present : Bool
  abandons : Nat
  deriving DecidableEq, Repr, Inhabited

/-- The peripheral bus controller: the slot table, the channels, and what the part put into the slots in
the last cycle (R175). -/
structure Bus where
  slots : Vector Slot 16
  channels : Vector Channel 5
  down : Vector SlotSignal 16
  deriving DecidableEq, Repr, Inhabited

/-! ## Frames, replies and notices (chapter 11) -/

/-- Logical address of a frame (R185). -/
inductive Address
  | management | sale | payment | print | channel2 | channel3 | channel4
  | other (byte : Byte)
  deriving DecidableEq, Repr, Inhabited

/-- The request a reply answers (R185): a request by name, or a frame refused before it could be named, by
its KIND. -/
inductive Req
  | laneReset | configWrite | configRead | laneReady | setDate | promptTextWrite | promptTextRead
  | heatTableWrite | statusRead | slotTableWrite | busRead | rangeRuleWrite | rangeRuleRead | articleFill
  | articleUpdate | articlePin | articleUnpin | articleProbe | articleFlush | tallyPush | calWrite | calRead
  | zero | tare | weightRead | issuerWrite | issuerRead | tillRead | tillReadZero | attentionRead | keyedCode
  | beginPayment | resumeScanning | voidLine | discount | cashTender | cancelSale | noReceipt | saleRead
  | skipBag | clearAttention | drawerNoSale | paymentResult | cancelConfirmed | reprint | textJob
  | segmentJob | jobList | glyphWrite | glyphRead | formatWrite | formatRead | cutFeedWrite | templateWrite
  | templateLines | templateClear | scriptWrite | scriptRead | resumePrint | printerRead | channelFrame
  | unnamed (kind : Byte)
  deriving DecidableEq, Repr, Inhabited

/-- Reason code of a refusal (00_scope 4.7). -/
inductive Reason
  | busy | state | range | full | unknown | notFound | locked | stale
  deriving DecidableEq, Repr, Inhabited

/-- Link speed (R184). -/
inductive LinkSpeed
  | s115200 | s460800 | s921600
  deriving DecidableEq, Repr, Inhabited

/-- Reset kind of a STARTED notice (R187). -/
inductive ResetKind
  | powerOn | lane
  deriving DecidableEq, Repr, Inhabited

/-- Reason of a SALE_STATE notice (R26). -/
inductive SaleReason
  | opened | paying | resumed | settled | closed | cancelled | cancelPending | cancelLapsed
  deriving DecidableEq, Repr, Inhabited

/-- Reason of a SCAN_REFUSED notice (R6, R34, R36). -/
inductive ScanReason
  | state | check | rule | queueFull | timeout | unknown | noWeight | saleFull
  deriving DecidableEq, Repr, Inhabited

/-- Reason or outcome of a CARD_STATE notice (R115). -/
inductive CardReason
  | length | checkDigit | expired | issuer | tenderLimit | saleFull | attempts
  | approved | partialApproval | declined | error | cancelled | withdrawn
  deriving DecidableEq, Repr, Inhabited

/-- How a PROMPT notice marks its prompt (R164, R167). -/
inductive PromptMark
  | shown | promoted | reportedOnly
  deriving DecidableEq, Repr, Inhabited

/-- BAG_CHECK (R94). -/
structure BagCheckNotice where
  state : BagCheckState
  baseline : Option Int
  expectation : Option Expectation
  delta : Option Int
  skips : Nat
  changed : List (Nat × BagState)
  deriving DecidableEq, Repr, Inhabited

/-- CARD_STATE (R115). -/
structure CardStateNotice where
  sale : Nat
  state : SessionState
  event : CardEvent
  reason : Option CardReason
  face : Option CardFace
  masked : Option Text
  payment : Option Payment
  amount : Option Nat
  failures : Nat
  deriving DecidableEq, Repr, Inhabited

/-- PAYMENT_REQUEST, the one frame that carries a full account number (R103, R106). -/
structure PaymentRequestNotice where
  sale : Nat
  attempt : Nat
  tenderIndex : Nat
  amount : Nat
  route : RouteClass
  mode : EntryMode
  full : FullData
  deriving DecidableEq, Repr, Inhabited

/-- DRAWER_STATE (R130). -/
structure DrawerNotice where
  state : DrawerState
  switchOpen : Bool
  pendingOpen : Bool
  attempt : Option Nat
  origin : Option OpenOrigin
  sale : Nat
  deriving DecidableEq, Repr, Inhabited

/-- JOB_STATE (R134). -/
structure JobNotice where
  number : Nat
  kind : JobKind
  state : JobState
  sale : Option Nat
  templateMissing : Bool
  noReceipt : Bool
  deriving DecidableEq, Repr, Inhabited

/-- PRINTER_STATE (R160). -/
structure PrinterNotice where
  state : PrinterState
  fault : Option FaultKind
  paperPresent : Bool
  paperNearEnd : Bool
  coverClosed : Bool
  cutterHome : Bool
  band : Option Nat
  temperature : Option Int
  ringLines : Nat
  continuation : Nat
  headJob : Option Nat
  deriving DecidableEq, Repr, Inhabited

/-- PROMPT (R164). -/
structure PromptNotice where
  current : Option Prompt
  isEvent : Bool
  mark : PromptMark
  sale : Nat
  conditions : List Prompt
  deriving DecidableEq, Repr, Inhabited

/-- ATTENTION (R173). -/
structure AttentionNotice where
  causes : List Cause
  primary : Option PrimaryContext
  age : Option AgeRecord
  hold : Bool
  deriving DecidableEq, Repr, Inhabited

/-- A card tender reported by STARTED (R27, R187). -/
structure CutTender where
  sale : Nat
  approval : Text
  amount : Int
  deriving DecidableEq, Repr, Inhabited

/-- A payment cut off by a lane reset (R117, R187). -/
structure CutPayment where
  sale : Nat
  attempt : Nat
  tenderIndex : Nat
  requested : Nat
  cancelAsked : Bool
  deriving DecidableEq, Repr, Inhabited

/-- STARTED (R187). -/
structure StartedNotice where
  version : Nat
  kind : ResetKind
  speed : LinkSpeed
  w0Count : Nat
  w0State : ScaleState
  w1Count : Nat
  w1State : ScaleState
  tenders : List CutTender
  payment : Option CutPayment
  deriving DecidableEq, Repr, Inhabited

/-- The notices of the part, each with what its rule says it carries. -/
inductive Notice
  /-- SALE_STATE (R26). -/
  | saleState (state : SaleState) (sale : Nat) (reason : SaleReason) (totals : Totals) (change : Int)
  /-- LINE_ADDED (R11). -/
  | lineAdded (line : SaleLine) (totals : Totals)
  /-- LINE_BAGGED (R86, R90). -/
  | lineBagged (line : Nat) (direction : Direction) (bag : BagState) (observed : Int) (overridden : Bool) (learned : Option Int)
  /-- BAG_CHECK (R94). -/
  | bagCheck (content : BagCheckNotice)
  /-- SCAN_REFUSED (R34). -/
  | scanRefused (source : ScanSource) (received : Text) (reason : ScanReason) (sale : Nat)
  /-- LOOKUP_REQUEST (R39). -/
  | lookupRequest (code : Code) (noCache : Bool) (received : Text) (rule : Option Nat)
  /-- TALLY_REPORT (R50). -/
  | tallyReport (code : Code) (count value : Int) (reason : TallyReason)
  /-- SCALE_STATE (R72). -/
  | scaleState (channel : ScaleId) (state : ScaleState) (zero : ZeroStatus) (count : Nat) (weight : Option Int)
  /-- CARD_STATE (R115). -/
  | cardState (content : CardStateNotice)
  /-- PAYMENT_REQUEST (R106). -/
  | paymentRequest (content : PaymentRequestNotice)
  /-- PAYMENT_CANCEL (R110, R111). -/
  | paymentCancel (sale attempt : Nat)
  /-- REVERSAL (R114). -/
  | reversal (sale attempt : Nat) (approval : Text) (amount : Nat)
  /-- DRAWER_STATE (R130). -/
  | drawerState (content : DrawerNotice)
  /-- JOB_STATE (R134). -/
  | jobState (content : JobNotice)
  /-- PRINTER_STATE (R160). -/
  | printerState (content : PrinterNotice)
  /-- PROMPT (R164). -/
  | prompt (content : PromptNotice)
  /-- ATTENTION (R173). -/
  | attention (content : AttentionNotice)
  /-- CHANNEL_STATE (R181). -/
  | channelState (channel : ChannelId) (present : Bool) (filtered : BitVec 4) (abandons : Nat)
  /-- STARTED (R187). -/
  | started (content : StartedNotice)
  deriving DecidableEq, Repr, Inhabited

/-- The block whose notice waits (R186). -/
inductive Source
  | saleUnit | scanIntake | cache | bagging | card | drawer | composer | attention | management
  | scale (id : ScaleId) | mechanism | channel (id : ChannelId)
  deriving DecidableEq, Repr, Inhabited

/-- What waits for a place in the outbound queue as a notice (R186): a notice; the report the cache waits
with (R50); the built payment request (R106); the oldest complete message of a channel (R182). -/
inductive Waiter
  | notice (source : Source) (content : Notice)
  | cacheReport
  | paymentRequest
  | uplink (channel : ChannelId)
  deriving DecidableEq, Repr, Inhabited

/-- What the reply to a STATUS_READ carries (R190). -/
structure StatusReport where
  laneReady : Bool
  written : Bool
  date : Option Nat
  speed : LinkSpeed
  badFrames : Nat
  framesQueued : Nat
  saleState : SaleState
  saleNumber : Nat
  lineCount : Nat
  balance : Int
  receipt : ReceiptState
  change : Int
  cancelPending : Bool
  scanEntries : Nat
  lookupCodes : Nat
  w0State : ScaleState
  w0Zero : ZeroStatus
  w0Count : Nat
  w1State : ScaleState
  w1Zero : ZeroStatus
  w1Count : Nat
  sealOpen : Bool
  bagState : BagCheckState
  baseline : Option Int
  skips : Nat
  session : SessionState
  cardInReader : Bool
  failures : Nat
  attempts : Nat
  drawer : DrawerState
  switchOpen : Bool
  pendingOpen : Bool
  composing : Bool
  jobCount : Nat
  printer : PrinterState
  fault : Option FaultKind
  hold : Bool
  primary : Option Cause
  present : List Bool
  deriving DecidableEq, Repr, Inhabited

/-- What a BUS_READ reply carries of one channel (R181). -/
structure ChannelReport where
  present : Bool
  filtered : BitVec 4
  wire : BitVec 4
  abandons : Nat
  transmitting : Nat
  complete : Nat
  deriving DecidableEq, Repr, Inhabited

/-- What an ARTICLE_PROBE reply carries (R48). -/
structure ProbeReport where
  rule : Option AppliedRule
  lookup : Code
  listed : Bool
  cached : Option (Fin 256 × Way × CacheEntry)
  deriving DecidableEq, Repr, Inhabited

/-- What a WEIGHT_READ reply carries (R73). -/
structure WeightReport where
  state : ScaleState
  zeroStatus : ZeroStatus
  weight : Option Int
  gross : Option Int
  inMotion : Bool
  tare : Int
  capturePending : Bool
  zero : Option Int
  zeroInit : Option Int
  average : Int
  count : Nat
  deriving DecidableEq, Repr, Inhabited

/-- Header of a SALE_READ reply (R25). -/
structure SaleHeader where
  state : SaleState
  number : Nat
  lineCount : Nat
  totals : Totals
  change : Int
  receipt : ReceiptState
  cancelPending : Bool
  deriving DecidableEq, Repr, Inhabited

/-- One job of a JOB_LIST reply (R135). -/
structure JobReport where
  number : Nat
  kind : JobKind
  state : JobState
  sale : Option Nat
  templateMissing : Bool
  deriving DecidableEq, Repr, Inhabited

/-- Outcome of an accepted DRAWER_NO_SALE (R127). -/
inductive NoSaleOutcome
  | pulsing | deferred | alreadyOpen
  deriving DecidableEq, Repr, Inhabited

/-- The data a DONE reply carries, by what its request asks for. -/
inductive ReplyData
  | none
  | config (values : LaneConfig) (written : Bool)
  | promptText (line1 line2 : Text)
  | heat (tables : HeatTables)
  | status (report : StatusReport)
  | slots (table : Vector Slot 16)
  | bus (table : Vector Slot 16) (channels : List ChannelReport)
  | ruleStored (rule : RangeRule) (invalidated : Nat)
  | rules (table : Vector RangeRule 4)
  | fill (outcome : FillOutcome) (entries : Nat)
  | updated (cached : Bool)
  | probe (report : ProbeReport)
  | flushed (invalidated reports : Nat)
  | pushed (reports : Nat)
  | calibration (record : CalRecord) (passes sealOpen : Bool)
  | zeroed (zero : Int) (state : ScaleState) (weight : Int)
  | tareTaken (tare weight : Int)
  | tareCleared (weight : Option Int)
  | weight (report : WeightReport)
  | issuer (entry : IssuerEntry)
  | till (tallies : TillTallies) (job : Option Nat)
  | attention (content : AttentionNotice) (current : Option Prompt) (conditions : List Prompt) (rest : RestText)
  | sale (number : Nat)
  | payment (state : SaleState) (balance : Int)
  | voided (line : Nat) (totals : Totals)
  | line (number : Nat) (amount : Int) (totals : Totals)
  | cash (line : Nat) (tender balance : Int) (change : Option Int)
  | cancelled (pending : Bool)
  | receiptParts (parts : Option JobParts)
  | saleRead (header : SaleHeader) (lines : List SaleLine)
  | skipped (line count : Nat)
  | cleared (causes : List Cause) (holdClear : Bool)
  | noSale (outcome : NoSaleOutcome)
  | result (applied : Bool) (line : Option Nat)
  | confirmed (matched : Bool)
  | job (number : Nat)
  | jobs (composing : Bool) (nextJob freeLines : Nat) (list : List JobReport)
  | glyph (rows : List Nat) (loaded : Bool)
  | format (entry : FormatEntry)
  | formatRead (entry : FormatEntry) (feedToCut : Nat)
  | feedToCut (length : Nat)
  | segment (start lineCount freeLines : Nat)
  | freeLines (count : Nat)
  | script (moves : List BlockMove)
  | resumed (state : PrinterState) (continuation : Nat)
  | printer (content : PrinterNotice) (hot stopped repeatCut : Bool) (heat : HeatTables)
  deriving DecidableEq, Repr, Inhabited

/-- A reply frame (R185): DONE with data, or a refusal with its reason. -/
inductive ReplyBody
  | done (data : ReplyData)
  | refused (reason : Reason)
  deriving DecidableEq, Repr, Inhabited

structure Reply where
  address : Address
  request : Req
  body : ReplyBody
  deriving DecidableEq, Repr, Inhabited

/-- A frame of the outbound queue (R185, R186): a reply, a notice, or a peripheral message going up. -/
inductive Frame
  | reply (content : Reply)
  | notice (content : Notice)
  | uplink (channel : ChannelId) (message : List Byte)
  deriving DecidableEq, Repr, Inhabited

/-- A reply waiting for room, and whether it answers the request its address holds (a BUSY or UNKNOWN
refusal of a further frame does not) (R185, R186). -/
structure WaitingReply where
  reply : Reply
  answers : Bool
  deriving DecidableEq, Repr, Inhabited

/-- Phase of the link receiver (R184). -/
inductive RxPhase
  | hunt | length | body
  deriving DecidableEq, Repr, Inhabited

/-- The lane link port (R184 to R186).  `assembly` holds the bytes of the frame after SYNC; `deferred` the
replies their owners hold while 4 replies wait; `lastSent` the bytes of the frame sent last, SYNC first. -/
structure Link where
  phase : RxPhase
  assembly : List Byte
  badFrames : Nat
  speed : LinkSpeed
  queue : List Frame
  replies : List WaitingReply
  deferred : List WaitingReply
  lastSent : List Byte
  waiters : List Waiter
  unanswered : List Address
  deriving DecidableEq, Repr, Inhabited

/-- Where a lane reset stands (R191): none asked for, its DONE reply not yet sent, or its reply sent. -/
inductive ResetStage
  | none | answering | due
  deriving DecidableEq, Repr, Inhabited

/-- Lane management (R187 to R189, R163). -/
structure Lane where
  ready : Bool
  config : LaneConfig
  written : Bool
  date : Option Nat
  promptTexts : Vector (Text × Text) 16
  reset : ResetStage
  deriving DecidableEq, Repr, Inhabited

/-! ## The cache's work (R50) -/

/-- A piece of the cache's work: an operation not yet taken up, or a step of one that has been. -/
inductive CacheWork
  /-- Take up a fill (R43). -/
  | fill (code : Code) (content : Option Article)
  /-- Take up a flush (R49). -/
  | flush (mode : FlushMode)
  /-- Take up the invalidations of a rule write, which ends with its reply (R32). -/
  | sweep (rule : RangeRule)
  /-- Take up a push (R52). -/
  | push
  /-- Take up a settlement credit (R51). -/
  | credit (code : Code) (count value : Int)
  /-- Report an entry's tallies if they are dirty. -/
  | report (set : Fin 256) (way : Way) (reason : TallyReason)
  /-- Report a credit for a code that is not cached (R51). -/
  | writeThrough (code : Code) (count value : Int)
  /-- Invalidate a way. -/
  | invalidate (set : Fin 256) (way : Way)
  /-- Write a record into a way and make it the more recently used one (R44). -/
  | place (set : Fin 256) (way : Way) (code : Code) (article : Article)
  /-- Add a credit to a cached entry's tallies (R51). -/
  | add (set : Fin 256) (way : Way) (count value : Int)
  /-- Act on the scan queue after a fill's placement, and answer the fill (R45). -/
  | resolve (code : Code) (content : Option Article) (outcome : FillOutcome)
  /-- Send the operation's reply. -/
  | answer (request : Req) (data : ReplyData)
  deriving DecidableEq, Repr, Inhabited

/-- The article cache (R41, R50).  `waiting` is set while it waits for room with the report at the front
of its work. -/
structure Cache where
  sets : Vector CacheSet 256
  work : List CacheWork
  waiting : Bool
  deriving DecidableEq, Repr, Inhabited

/-! ## The whole part -/

/-- The state of the part.  `pending` is the queue of commands waiting, first in first out; `pins` the
input pins as last known; `now` the millisecond timebase. -/
structure State where
  pending : List Instr
  pins : Pins
  now : Time
  link : Link
  lane : Lane
  bus : Bus
  attention : Attention
  scan : ScanIntake
  cache : Cache
  w0 : Scale
  w1 : Scale
  bagging : Bagging
  sale : SaleRecord
  lastSale : Option SaleRecord
  card : CardPath
  drawer : Drawer
  composer : Composer
  mechanism : Mechanism
  deriving DecidableEq, Repr

/-- Faults of a step.  The manual gives the part no condition that stops it: there is no constructor, and
no meaning ends in a fault. -/
inductive Fault
  deriving DecidableEq, Repr

/-- Refusals of a step. -/
inductive Refusal
  /-- Raised by an arm of `exec` for a row of the table that has no meaning yet; safe, since the machine
  stops.  No arm raises it. -/
  | notModelled (mnemonic : String)
  deriving DecidableEq, Repr

/-- What a meaning answers. -/
abbrev Outcome := Host.Outcome State Fault Refusal

namespace State

/-- A range rule after power-on reset (R29). -/
def resetRule : RangeRule := ⟨false, [0x30#8], .any, .direct, none⟩

/-- A weighing channel with a blank calibration record after power-on reset (R54, R55). -/
def resetScale : Scale where
  store := ⟨Config.blankRecord, false⟩
  work := none
  writing := none
  faulted := false
  history := []
  window := []
  average := 0
  zeroStatus := .pending
  zero := none
  zeroInit := none
  tare := 0
  capturePending := false
  railCount := 0
  recoveryCount := 0
  trackRun := 0
  absenceStart := none

/-- A bus channel after power-on reset, with the outbound value its owner has set (R176, R183). -/
def resetChannel (next : Option (BitVec 4)) : Channel where
  transmit := []
  phase := false
  offset := 0
  presented := none
  cycles := 0
  abortOwed := false
  echo := none
  refusing := false
  assembling := []
  thirdComplete := false
  complete := []
  filtered := 0
  candidate := 0
  run := 0
  wire := 0
  wireCycles := 0
  nextWire := next
  present := false
  abandons := 0

/-- A format table entry after power-on reset (R139). -/
def resetFormat : FormatEntry := ⟨false, .a, 1, 1, 1, 48, 0, [], none⟩

/-- An issuer table entry after power-on reset (R100). -/
def resetIssuer : IssuerEntry := ⟨false, 0, 0, 12, 19, .refuse⟩

/-- A session with no card (R97). -/
def resetSession : Session := ⟨.noCard, none, false, none, none, none, none⟩

/-- The STARTED notice of a power-on reset of a part with both records blank (R187). -/
def resetStarted : StartedNotice := ⟨Config.partVersion, .powerOn, .s115200, 0, .nocal, 0, .nocal, [], none⟩

/-- The part right after a power-on reset with the pins of `Config.resetPins` and both calibration records
blank, as a part leaves manufacture (R54).  STARTED stands in the outbound queue (R187); scan intake and the
card path have set their first status values (R38, R96). -/
def reset : State where
  pending := []
  pins := Config.resetPins
  now := 0
  link := {
    phase := .hunt
    assembly := []
    badFrames := 0
    speed := .s115200
    queue := [.notice (.started resetStarted)]
    replies := []
    deferred := []
    lastSent := []
    waiters := []
    unanswered := [] }
  lane := {
    ready := false
    config := Config.laneDefaults
    written := false
    date := none
    promptTexts := Vector.replicate 16 ([], [])
    reset := .none }
  bus := {
    slots := Vector.replicate 16 .unused
    channels := #v[resetChannel (some 1), resetChannel (some 1), resetChannel none, resetChannel none, resetChannel none]
    down := Vector.replicate 16 ⟨0, false, false, false, false, false⟩ }
  attention := {
    current := none
    eventDeadline := none
    conditions := []
    silent := []
    rest := .closed
    displayWaiting := none
    causes := []
    primary := none
    age := none }
  scan := {
    queue := []
    lookups := []
    rules := Vector.replicate 4 resetRule
    capture := none
    gate := .disabled
    tone := none }
  cache := {
    sets := Vector.replicate 256 ⟨none, none, .zero⟩
    work := []
    waiting := false }
  w0 := resetScale
  w1 := resetScale
  bagging := {
    state := .suspended
    baseline := none
    expectation := none
    deviationStart := none
    delta := none
    promptRaised := false
    causeRaised := false
    skips := 0 }
  sale := {
    state := .idle
    number := 0
    lines := []
    receiptSuppressed := false
    cancelPending := false
    change := 0
    receipt := .none
    claim := none }
  lastSale := none
  card := {
    session := resetSession
    failures := 0
    attempts := 0
    issuers := Vector.replicate 64 resetIssuer
    light := 1
    prompt := none
    waiting := [] }
  drawer := {
    state := .closed
    switchOpen := false
    attempt := none
    origin := none
    pendingOpen := false
    pulseDeadline := none
    openingDeadline := none
    openDeadline := none
    till := ⟨0, 0, 0, 0, 0, 0⟩ }
  composer := {
    jobs := []
    composing := false
    nextJob := 1
    formats := Vector.replicate 15 resetFormat
    feedToCut := 48
    glyphsA := Vector.replicate 128 none
    glyphsB := Vector.replicate 128 none
    segments := Vector.replicate 16 none
    freeMark := 0
    scripts := Vector.replicate 4 []
    continuation := []
    todo := [] }
  mechanism := {
    ring := []
    inProgress := none
    previous := 0
    beforePrevious := 0
    temperature := some 25
    band := some 2
    openRun := 0
    hot := false
    stopped := false
    fault := none
    repeatCut := false
    paperPresent := true
    paperNearEnd := false
    coverClosed := true
    cutterHome := true
    continuation := []
    heat := Config.heatDefaults }

end State

end Sys2Proof.Machine
end

