-- ==== Sys2Proof/Machine/Operands.lean ====
section
/-! DEFINITION. How the part reads and writes values: digits and codes, check digits, range rules, rounding
and clamping, account numbers, numbers and amounts as text, display messages, the frame check. -/

namespace Sys2Proof.Machine

/-! ## Digits and codes (00_scope 4.5, R28) -/

/-- A decimal digit, 30h to 39h (R28). -/
def isDigit (b : Byte) : Bool := 0x30#8 ≤ b && b ≤ 0x39#8

/-- The value of a digit byte. -/
def digitValue (b : Byte) : Nat := b.toNat - 0x30

/-- A text of digits read as a decimal number. -/
def digitsValue (t : Text) : Nat := t.foldl (fun n b => 10 * n + digitValue b) 0

/-- An article code: 1 to 14 decimal digits (00_scope 4.5). -/
def isCode (t : Text) : Bool := 1 ≤ t.length && t.length ≤ 14 && t.all isDigit

/-- The code value of the normalized form of a code (00_scope 4.5). -/
def codeValue (t : Text) : Code := digitsValue t

/-- The normalized code of a text that is a code. -/
def normalize? (t : Text) : Option Code := if isCode t then some (codeValue t) else none

/-- Sum of digits, nearest the check digit first, weighted by turns with `w` and `4 - w` (R28: 3, 1, 3, …). -/
def weightedSum : List Nat → Nat → Nat
  | [], _ => 0
  | d :: ds, w => w * d + weightedSum ds (4 - w)

/-- The check digit test of a scanned or keyed code (R28). -/
def checkDigitOk (t : Text) : Bool :=
  match t.reverse with
  | [] => false
  | c :: rest => digitValue c == (10 - weightedSum (rest.map digitValue) 3 % 10) % 10

/-- The code lengths with a check digit (R28). -/
def hasCheckDigit (t : Text) : Bool := t.length == 8 || t.length == 12 || t.length == 13 || t.length == 14

/-- The code check of R28 by source. -/
def codePasses : ScanSource → Text → Bool
  | .scanner, t => hasCheckDigit t && t.all isDigit && checkDigitOk t
  | .keyed, t => if hasCheckDigit t then checkDigitOk t else true

/-! ## Range rules (R30, R31) -/

/-- The length a rule matches; none for ANY (R29). -/
def ruleLength : RuleLength → Option Nat
  | .l8 => some 8
  | .l12 => some 12
  | .l13 => some 13
  | .l14 => some 14
  | .any => none

/-- Whether a rule matches a code in its received form (R30). -/
def ruleMatches (r : RangeRule) (t : Text) : Bool :=
  r.enabled && (match ruleLength r.length with | none => true | some l => t.length == l) && r.pre.isPrefixOf t

/-- Whether the last `l` digits of a normalized code begin with a rule's digits, the digits before them
being zeros (R31). -/
def storedAt (r : RangeRule) (code : Code) (l : Nat) : Bool :=
  r.pre.length ≤ l && code < 10 ^ l && code / 10 ^ (l - r.pre.length) == digitsValue r.pre

/-- The stored-form test of one rule (R31). -/
def storedMatches (r : RangeRule) (code : Code) : Bool :=
  r.enabled && (match ruleLength r.length with
    | some l => storedAt r code l
    | none => (List.range 14).any fun k => storedAt r code (k + 1))

/-- The first rule, in order 0 to 3, for which a test holds. -/
def firstRule (rules : Vector RangeRule 4) (test : RangeRule → Bool) : Option (Fin 4) :=
  (List.finRange 4).find? fun i => test rules[i]

/-- Whether a normalized code is marked DIRECT (R31). -/
def markedDirect (rules : Vector RangeRule 4) (code : Code) : Bool :=
  match firstRule rules (storedMatches · code) with
  | some i => rules[i].action == .direct
  | none => false

/-- The digits of the embedded field of a code, positions counted from the left from 1 (R29, R30). -/
def embeddedValue (f : EmbedField) (t : Text) : Nat := digitsValue ((t.drop (f.start - 1)).take f.digits)

/-- The base code: field digits and check digit replaced by zeros, then normalized (R30). -/
def baseCode (f : EmbedField) (t : Text) : Code :=
  codeValue (t.mapIdx fun i b =>
    if (f.start ≤ i + 1 ∧ i + 1 < f.start + f.digits) ∨ i + 1 = t.length then 0x30#8 else b)

/-- What the range rules make of a received code (R30): the rule applied, the lookup code, the embedded
value, and whether the code is refused with reason rule. -/
structure RuleOutcome where
  rule : Option AppliedRule
  lookup : Code
  embedded : Option Nat
  refused : Bool
  deriving DecidableEq, Repr

/-- The range rules applied to a code in its received form (R30). -/
def applyRules (rules : Vector RangeRule 4) (t : Text) : RuleOutcome :=
  match firstRule rules (ruleMatches · t) with
  | none => ⟨none, codeValue t, none, false⟩
  | some i =>
    let r := rules[i]
    let applied := some (AppliedRule.mk i r.action)
    match r.action, r.field with
    | .embedPrice, some f => ⟨applied, baseCode f t, some (embeddedValue f t), embeddedValue f t == 0⟩
    | .embedWeight, some f => ⟨applied, baseCode f t, some (embeddedValue f t), embeddedValue f t == 0⟩
    | .refuse, _ => ⟨applied, codeValue t, none, true⟩
    | _, _ => ⟨applied, codeValue t, none, false⟩

/-- The set of a code (R41). -/
def setOf (code : Code) : Fin 256 := Fin.ofNat 256 code

/-! ## Rounding and clamping (00_scope 4.1, 4.8) -/

/-- A quotient rounded to the nearest integer, exact halves away from zero (00_scope 4.1). -/
def roundDiv (n : Int) (d : Nat) : Int :=
  if 0 ≤ n then (2 * n + d) / (2 * d) else -((2 * -n + d) / (2 * d))

/-- The nearest value of a range (00_scope 4.8). -/
def clampNat (lo hi x : Nat) : Nat := max lo (min hi x)

/-- The nearest value of a range of integers. -/
def clampInt (lo hi x : Int) : Int := max lo (min hi x)

/-- floor(W × P + 500) / 1000, the weighed price (R78). -/
def weighedPrice (weight : Int) (price : Nat) : Int := (weight * price + 500) / 1000

/-- ceil(n / d) for a positive divisor. -/
def ceilDiv (n : Int) (d : Nat) : Int := (n + d - 1) / d

/-! ## Account numbers (R99, R103) -/

/-- Sum of an account's digits from the right; a doubled digit above 9 loses 9 (R99). -/
def accountSum : List Nat → Bool → Nat
  | [], _ => 0
  | d :: ds, doubled => (if doubled then (if 9 < 2 * d then 2 * d - 9 else 2 * d) else d) + accountSum ds (!doubled)

/-- The check digit test of an account number (R99). -/
def accountCheckOk (t : Text) : Bool := accountSum (t.reverse.map digitValue) false % 10 == 0

/-- The masked form: first six and last four digits kept, every digit between replaced by "*" (R103). -/
def maskAccount (t : Text) : Text := t.take 6 ++ List.replicate (t.length - 10) 0x2A#8 ++ t.drop (t.length - 4)

/-- Whether a date or expiry number YYMM has a month of 01 to 12 (R95, R189). -/
def monthOk (yymm : Nat) : Bool := 1 ≤ yymm % 100 && yymm % 100 ≤ 12

/-- Whether a CARD_DATA message is well formed (R95). -/
def cardWellFormed (d : CardData) : Bool :=
  d.mode.isSome && d.account.all isDigit && d.expiry.length == 4 && d.expiry.all isDigit
    && monthOk (digitsValue d.expiry)
    && (match d.service with | none => true | some t => t.length == 3 && t.all isDigit)
    && (match d.issuerData with | none => true | some b => b.length ≤ 128)

/-! ## Numbers and texts (R141) -/

/-- The bytes of a string of printable characters. -/
def ascii (s : String) : Text := s.toList.map fun c => BitVec.ofNat 8 c.toNat

/-- The blank, 20h. -/
def blank : Byte := 0x20#8

/-- Decimal digits of a number, with fuel. -/
def decimalFuel : Nat → Nat → Text
  | 0, _ => []
  | k + 1, n => if n < 10 then [BitVec.ofNat 8 (0x30 + n)] else decimalFuel k (n / 10) ++ [BitVec.ofNat 8 (0x30 + n % 10)]

/-- A number in decimal digits with no leading zeros (R141). -/
def decimal (n : Nat) : Text := decimalFuel (n + 1) n

/-- Digits left-padded with zeros to a length. -/
def padZeros (len : Nat) (t : Text) : Text := List.replicate (len - t.length) 0x30#8 ++ t

/-- A number with a number of decimals after the separator (R141). -/
def withDecimals (decimals : Nat) (separator : Byte) (n : Nat) : Text :=
  if decimals = 0 then decimal n
  else
    let digits := padZeros (decimals + 1) (decimal n)
    digits.take (digits.length - decimals) ++ [separator] ++ digits.drop (digits.length - decimals)

/-- An amount as text; a negative amount is followed by "-" (R141). -/
def amountText (decimals : Nat) (separator : Byte) (x : Int) : Text :=
  withDecimals decimals separator x.natAbs ++ (if x < 0 then [0x2D#8] else [])

/-- A weight in grams as kilograms with 3 decimals (R141). -/
def weightText (separator : Byte) (grams : Int) : Text := withDecimals 3 separator grams.natAbs

/-- Printed name of a route class (R2, R137). -/
def routeText : RouteClass → Text
  | .debit => ascii "DEBIT"
  | .credit => ascii "CREDIT"
  | .store => ascii "STORE"
  | .gift => ascii "GIFT"
  | .refuse => ascii "REFUSE"

/-- Printed name of an entry mode (R137). -/
def modeText : EntryMode → Text
  | .swipe => ascii "SWIPE"
  | .insert => ascii "INSERT"
  | .tap => ascii "TAP"

/-! ## Display messages (11.3) -/

/-- A line of the display: 20 characters, blanks after the text, cut at the 20th (11.3). -/
def displayRow (t : Text) : Text := t.take 20 ++ List.replicate (20 - t.length) blank

/-- The 42-byte customer display message (11.3). -/
def displayMessage (source : Byte) (line1 line2 : Text) : List Byte :=
  [0x54#8, source] ++ displayRow line1 ++ displayRow line2

/-! ## The frame check (R184) -/

/-- One bit of the CRC-16 with polynomial 1021h. -/
def crcBit (crc : BitVec 16) : BitVec 16 := if crc.msb then (crc <<< 1) ^^^ 0x1021#16 else crc <<< 1

/-- One byte of the CRC-16, most significant bit first (R184). -/
def crcByte (crc : BitVec 16) (b : Byte) : BitVec 16 :=
  Nat.repeat crcBit 8 (crc ^^^ (b.setWidth 16 <<< 8))

/-- The CHECK over ADDR, KIND and payload (R184). -/
def frameCheck (bytes : List Byte) : BitVec 16 := bytes.foldl crcByte 0xFFFF#16

end Sys2Proof.Machine
end

