-- ==== Sys2Proof/Machine/Frames.lean ====
section
/-! DEFINITION. The frames of the lane link as they are sent (R185, 11.3): the address, the KIND, the payload
and the CHECK of a reply, a notice and a message going up, and the request a command stands for by name. -/

namespace Sys2Proof.Machine

/-! ## KIND values and payloads, which the manual does not give (00_scope 4.9, log entry 5) -/

/-- The notices by name. -/
inductive NoticeName
  | saleState | lineAdded | lineBagged | bagCheck | scanRefused | lookupRequest | tallyReport | scaleState
  | cardState | paymentRequest | paymentCancel | reversal | drawerState | jobState | printerState | prompt
  | attention | channelState | started
  deriving DecidableEq, Repr, Inhabited

/-- The name of a notice. -/
def Notice.name : Notice → NoticeName
  | .saleState _ _ _ _ _ => .saleState
  | .lineAdded _ _ => .lineAdded
  | .lineBagged _ _ _ _ _ _ => .lineBagged
  | .bagCheck _ => .bagCheck
  | .scanRefused _ _ _ _ => .scanRefused
  | .lookupRequest _ _ _ _ => .lookupRequest
  | .tallyReport _ _ _ _ => .tallyReport
  | .scaleState _ _ _ _ _ => .scaleState
  | .cardState _ => .cardState
  | .paymentRequest _ => .paymentRequest
  | .paymentCancel _ _ => .paymentCancel
  | .reversal _ _ _ _ => .reversal
  | .drawerState _ => .drawerState
  | .jobState _ => .jobState
  | .printerState _ => .printerState
  | .prompt _ => .prompt
  | .attention _ => .attention
  | .channelState _ _ _ _ => .channelState
  | .started _ => .started

end Sys2Proof.Machine

namespace Sys2Proof.Config

/-- The KIND of a request, 00h to 7Fh (R185).  Free value, log entry 5. -/
opaque requestKind : Machine.Req → BitVec 7

/-- The KIND of a notice, 00h to 7Fh (R185).  Free value, log entry 5. -/
opaque noticeKind : Machine.NoticeName → BitVec 7

/-- What the KIND of the UNKNOWN reply to a frame whose own KIND is 80h or above, where KIND plus 80h is no
byte, has above 80h (R185).  Free value, log entry 5. -/
opaque replyKindAbove : Byte → BitVec 7

/-- The bytes after the outcome byte of a DONE reply (R185).  Free value, log entry 5. -/
opaque replyData : Machine.ReplyData → List Byte

/-- The payload of a notice (R185).  Free value, log entry 5. -/
opaque noticePayload : Machine.Notice → List Byte

end Sys2Proof.Config

namespace Sys2Proof.Machine

/-! ## Addresses (R185) -/

/-- The byte of an address (R185). -/
def Address.byte : Address → Byte
  | .management => 0x00
  | .sale => 0x01
  | .payment => 0x02
  | .print => 0x03
  | .channel2 => 0x12
  | .channel3 => 0x13
  | .channel4 => 0x14
  | .other b => b

/-- The byte of the address a channel's messages go up under (R185). -/
def uplinkByte (ch : ChannelId) : Byte := BitVec.ofNat 8 (0x10 + ch.val)

/-- The address a notice is sent under (R26, R34, R39, R50, R72, R86, R94, R106, R110, R114, R115, R130, R134,
R160, R164, R173, R181, R187); LINE_ADDED and PAYMENT_CANCEL take that of their owners, the sale record unit
and the card path (DEDUCED, log entry 5). -/
def NoticeName.address : NoticeName → Address
  | .saleState | .lineAdded | .lineBagged | .bagCheck | .scanRefused | .drawerState | .prompt | .attention => .sale
  | .lookupRequest | .tallyReport | .scaleState | .channelState | .started => .management
  | .cardState | .paymentRequest | .paymentCancel | .reversal => .payment
  | .jobState | .printerState => .print

/-! ## KIND, payload and frame (R185, 11.3) -/

/-- The KIND of the request a reply answers. -/
def Req.kind : Req → Byte
  | .channelFrame => 0x00
  | .unnamed k => k
  | r => (Config.requestKind r).setWidth 8

/-- The KIND of a reply: the request's plus 80h, and 80h or above for every reply (R185). -/
def Req.replyKind (r : Req) : Byte :=
  (if 0x80#8 ≤ r.kind then (Config.replyKindAbove r.kind).setWidth 8 else r.kind) + 0x80#8

/-- The outcome byte of a refusal (11.3). -/
def Reason.outcome : Reason → Byte
  | .busy => 0x01
  | .state => 0x02
  | .range => 0x03
  | .full => 0x04
  | .unknown => 0x05
  | .notFound => 0x06
  | .locked => 0x07
  | .stale => 0x08

/-- The payload of a reply: the outcome byte, and the data of a DONE reply (R185, 11.3). -/
def ReplyBody.payload : ReplyBody → List Byte
  | .done d => 0x00#8 :: Config.replyData d
  | .refused r => [r.outcome]

/-- ADDR, KIND and payload of a frame (R185). -/
def Frame.parts : Frame → Byte × Byte × List Byte
  | .reply r => (r.address.byte, r.request.replyKind, r.body.payload)
  | .notice n => (n.name.address.byte, (Config.noticeKind n.name).setWidth 8, Config.noticePayload n)
  | .uplink ch m => (uplinkByte ch, 0x00, m)

/-- A 16-bit value, most significant byte first. -/
def twoBytes (v : BitVec 16) : List Byte := [v.extractLsb' 8 8, v.extractLsb' 0 8]

/-- The bytes of a frame with a payload of at most 1,024 bytes: SYNC, LENGTH, ADDR, KIND, payload, CHECK
(11.3). -/
def frameOf (address kind : Byte) (payload : List Byte) : List Byte :=
  let covered := address :: kind :: payload
  0xA5#8 :: (twoBytes (BitVec.ofNat 16 payload.length) ++ covered ++ twoBytes (frameCheck covered))

/-- The bytes of a frame of the outbound queue (R185, 11.3). -/
def Frame.bytes (f : Frame) : List Byte :=
  let p := f.parts
  frameOf p.1 p.2.1 (p.2.2.take Config.payloadCapacity)

/-! ## The requests of an address, and the request a command stands for, by name (R185) -/

/-- The requests of an address (R185), as the chapters give them. -/
def requestsOf : Address → List Req
  | .management =>
    [.laneReset, .configWrite, .configRead, .laneReady, .setDate, .promptTextWrite, .promptTextRead, .heatTableWrite,
      .statusRead, .slotTableWrite, .busRead, .rangeRuleWrite, .rangeRuleRead, .articleFill, .articleUpdate, .articlePin,
      .articleUnpin, .articleProbe, .articleFlush, .tallyPush, .calWrite, .calRead, .zero, .tare, .weightRead,
      .issuerWrite, .issuerRead, .tillRead, .tillReadZero, .attentionRead]
  | .sale =>
    [.keyedCode, .beginPayment, .resumeScanning, .voidLine, .discount, .cashTender, .cancelSale, .noReceipt, .saleRead,
      .skipBag, .clearAttention, .drawerNoSale]
  | .payment => [.paymentResult, .cancelConfirmed]
  | .print =>
    [.reprint, .textJob, .segmentJob, .jobList, .glyphWrite, .glyphRead, .formatWrite, .formatRead, .cutFeedWrite,
      .templateWrite, .templateLines, .templateClear, .scriptWrite, .scriptRead, .resumePrint, .printerRead]
  | .channel2 | .channel3 | .channel4 => [.channelFrame]
  | .other _ => []

/-- The name of the request a command is; a command that is no request has none. -/
def requestName (c : Instr) : Option Req :=
  match c with
  | .laneReset => some .laneReset
  | .configWrite _ => some .configWrite
  | .configRead => some .configRead
  | .laneReady => some .laneReady
  | .setDate _ => some .setDate
  | .promptTextWrite _ _ _ => some .promptTextWrite
  | .promptTextRead _ => some .promptTextRead
  | .heatTableWrite _ => some .heatTableWrite
  | .statusRead _ => some .statusRead
  | .slotTableWrite _ => some .slotTableWrite
  | .busRead => some .busRead
  | .rangeRuleWrite _ _ => some .rangeRuleWrite
  | .rangeRuleRead => some .rangeRuleRead
  | .articleFill _ _ => some .articleFill
  | .articleUpdate _ _ => some .articleUpdate
  | .articlePin _ => some .articlePin
  | .articleUnpin _ => some .articleUnpin
  | .articleProbe _ => some .articleProbe
  | .articleFlush _ => some .articleFlush
  | .tallyPush => some .tallyPush
  | .calWrite _ _ _ => some .calWrite
  | .calRead _ _ => some .calRead
  | .zero _ => some .zero
  | .tare _ _ => some .tare
  | .weightRead _ => some .weightRead
  | .issuerWrite _ _ => some .issuerWrite
  | .issuerRead _ => some .issuerRead
  | .tillRead => some .tillRead
  | .tillReadZero => some .tillReadZero
  | .attentionRead => some .attentionRead
  | .keyedCode _ _ => some .keyedCode
  | .beginPayment => some .beginPayment
  | .resumeScanning => some .resumeScanning
  | .voidLine _ => some .voidLine
  | .discount _ _ _ => some .discount
  | .cashTender _ => some .cashTender
  | .cancelSale => some .cancelSale
  | .noReceipt => some .noReceipt
  | .saleRead _ _ _ => some .saleRead
  | .skipBag => some .skipBag
  | .clearAttention _ _ => some .clearAttention
  | .drawerNoSale => some .drawerNoSale
  | .paymentResult _ _ _ _ _ => some .paymentResult
  | .cancelConfirmed _ _ => some .cancelConfirmed
  | .reprint => some .reprint
  | .textJob _ => some .textJob
  | .segmentJob _ => some .segmentJob
  | .jobList => some .jobList
  | .glyphWrite _ _ _ => some .glyphWrite
  | .glyphRead _ _ => some .glyphRead
  | .formatWrite _ _ => some .formatWrite
  | .formatRead _ => some .formatRead
  | .cutFeedWrite _ => some .cutFeedWrite
  | .templateWrite _ _ _ => some .templateWrite
  | .templateLines _ _ _ => some .templateLines
  | .templateClear => some .templateClear
  | .scriptWrite _ _ => some .scriptWrite
  | .scriptRead _ => some .scriptRead
  | .resumePrint => some .resumePrint
  | .printerRead => some .printerRead
  | .channelFrame _ _ => some .channelFrame
  | .powerOnReset _ | .laneResetTakesEffect _ | .frameReceived _ _ | .outboundFrameSent | .cacheWorkResumes
  | .calWriteComplete _ | .busCycle _ | .inboundStatusChange _ _ | .handshakeLimitExpiry _ | .abandonLimitReached _
  | .uplinkMessageHandedOn _ | .readerMessageSent | .displayMessageSent | .codeMessage _
  | .scannerMessageUplink _ | .lookupExpiry _ | .headOffered | .toneHoldEnd | .captureTimerExpiry
  | .captureMotionRun | .converterSample _ _ | .zeroTracking _ _ | .railFault _ _ | .absenceTimerExpiry _
  | .faultRecovery _ _ | .placeTimerExpiry | .bagAttentionTimerExpiry | .mismatchPromptTimerExpiry
  | .mismatchAttentionTimerExpiry | .unexpectedTimerExpiry | .cardPresent | .cardData _ | .paymentRequest
  | .cardRemoved | .readError | .keyCancel | .keyOk | .unknownReaderMessage | .paymentDeadlineExpiry
  | .readerPromptExpiry | .pendingOpenPulse | .pulseTimerExpiry | .openingTimerExpiry | .switchShowsOpen
  | .switchShowsClosed | .openTimerExpiry | .compositionStart | .ringElementWritten | .dotLineEnd | .cutEnd
  | .cutJamExpiry _ | .thermistorReading _ | .thermistorOpenFault | .paperPresentChange _
  | .coverClosedChange _ | .paperNearEndChange _ | .eventPromptExpiry | .frameDropped _
  | .cutterHomeChange _ => none

end Sys2Proof.Machine
end

