-- ==== Sys2Proof/Machine/Flags.lean ====
section
/-! DEFINITION. The values the part computes from its state rather than holding them: sale totals, the state
and reading of a weighing channel, the gate and rest text selections, slots of a channel, the states and
conditions other rules test. -/

namespace Sys2Proof.Machine

/-! ## Sale (R1, R4, R12) -/

/-- Whether a line counts towards the item total; the other kinds are tenders (R4). -/
def LineKind.isItem : LineKind → Bool
  | .item | .weighed | .void | .discount => true
  | .cardTender | .cashTender => false

/-- Whether a line is an ITEM or WEIGHED line. -/
def LineKind.isArticle : LineKind → Bool
  | .item | .weighed => true
  | _ => false

/-- Sum of the item line amounts (R4). -/
def itemTotal (ls : List SaleLine) : Int := (ls.map fun l => if l.kind.isItem then l.amount else 0).sum

/-- Sum of the tender line amounts (R4). -/
def tenderTotal (ls : List SaleLine) : Int := (ls.map fun l => if l.kind.isItem then 0 else l.amount).sum

/-- Item total, tender total and balance (R4). -/
def totals (ls : List SaleLine) : Totals := ⟨itemTotal ls, tenderTotal ls, itemTotal ls - tenderTotal ls⟩

/-- The balance of the current sale (R4). -/
def State.balance (s : State) : Int := (totals s.sale.lines).balance

/-- Whether the sale holds a tender line. -/
def hasTender (ls : List SaleLine) : Bool := ls.any fun l => !l.kind.isItem

/-- CARD_TENDER lines of the sale (R18). -/
def cardTenders (ls : List SaleLine) : List SaleLine := ls.filter fun l => l.kind == .cardTender

/-- Whether a sale is in progress as R27, R71 and R181 mean it: OPEN or PAYING. -/
def State.saleRunning (s : State) : Bool := s.sale.state == .opened || s.sale.state == .paying

/-- The sale number notices and contexts carry: 0 when no sale exists (R1, R168). -/
def State.saleNumber (s : State) : Nat := if s.sale.state = .idle then 0 else s.sale.number

/-- The cancel pending mark as it counts: clear in IDLE whatever the field holds (R1). -/
def State.cancelPending (s : State) : Bool := s.sale.state != .idle && s.sale.cancelPending

/-- Whether a line is in bag state AWAIT (R12). -/
def State.anyAwait (s : State) : Bool := s.sale.lines.any fun l => l.bag == .await

/-- A line of the sale by its number (1 upward). -/
def lineAt? (ls : List SaleLine) (number : Nat) : Option SaleLine := if number = 0 then none else ls[number - 1]?

/-- Change one line of a line list. -/
def modifyLine (ls : List SaleLine) (number : Nat) (f : SaleLine → SaleLine) : List SaleLine :=
  if number = 0 then ls else ls.modify (number - 1) f

/-! ## Attention (R168, R163) -/

/-- The hold: set exactly when the cause list is not empty (R168). -/
def Attention.hold (a : Attention) : Bool := !a.causes.isEmpty

/-- The rest text the state selects (R163). -/
def State.restSelection (s : State) : RestText :=
  if !s.lane.ready then .closed
  else if s.attention.hold then .attendant
  else if s.saleRunning then .scanning
  else .welcome

/-- Class of a prompt kind (R162). -/
def PromptKind.isEvent : PromptKind → Bool
  | .placeItem | .weightMismatch | .waitWeight | .placeOnScale | .closeDrawer | .removeCard => false
  | .scanAgain | .itemUnknown | .tryCardAgain | .cardDeclined | .finishPayment | .takeReceipt => true

/-- Prompt text table entry of a prompt kind (R163). -/
def PromptKind.entry : PromptKind → Fin 16
  | .placeItem => 0
  | .weightMismatch => 1
  | .waitWeight => 2
  | .placeOnScale => 3
  | .scanAgain => 4
  | .itemUnknown => 5
  | .removeCard => 6
  | .tryCardAgain => 7
  | .cardDeclined => 8
  | .closeDrawer => 9
  | .finishPayment => 10
  | .takeReceipt => 11

/-- Prompt text table entry of a rest text (R163). -/
def RestText.entry : RestText → Fin 16
  | .closed => 12
  | .welcome => 13
  | .scanning => 14
  | .attendant => 15

/-! ## Scan intake (R37, R38) -/

/-- Whether the bagging check is IDLE or OFF (R37). -/
def State.bagFree (s : State) : Bool := s.bagging.state == .idle || s.bagging.state == .off

/-- The gate value of R38. -/
def State.gateSelection (s : State) : Gate :=
  if !s.lane.ready || s.scan.queue.length == Config.scanCapacity
      || (!s.scan.queue.isEmpty && (!s.bagFree || s.attention.hold)) then .disabled
  else .enabled

/-- Status slot value of a gate value (R176). -/
def gateCode : Gate → BitVec 4
  | .disabled => 1
  | .enabled => 2

/-- Status slot value of a tone (R176). -/
def toneCode : Tone → BitVec 4
  | .good => 3
  | .reject => 4

/-! ## Weighing channels (R61, R62, R68, R69) -/

/-- Largest of a list of averages. -/
def maxOf : List Int → Int
  | [] => 0
  | x :: xs => xs.foldl max x

/-- Smallest of a list of averages. -/
def minOf : List Int → Int
  | [] => 0
  | x :: xs => xs.foldl min x

/-- The stability test (R61). -/
def Scale.stable (c : Scale) (r : CalRecord) : Bool :=
  c.window.length == r.windowLength && decide (maxOf c.window - minOf c.window ≤ r.motionBand)

/-- Gross G = A − z, on a channel whose zero status is SET (R68). -/
def Scale.gross (c : Scale) : Option Int :=
  match c.zeroStatus, c.zero with
  | .set, some z => some (c.average - z)
  | _, _ => none

/-- Overload limit in fine units (R69). -/
def overloadLimit (r : CalRecord) : Int := 10 * (r.capacity + 9 * r.division)

/-- Underload limit in fine units (R69). -/
def underloadLimit (r : CalRecord) : Int := -(200 * r.division)

/-- Whether a gross is beyond a limit; absent while the zero status is not SET (R62 rows 6 and 7). -/
def Scale.grossIs (c : Scale) (test : Int → Bool) : Bool :=
  match c.gross with
  | some g => test g
  | none => false

/-- The channel state: the first row of R62 whose condition holds. -/
def Scale.state (c : Scale) : ScaleState :=
  if c.writing.isSome then .calibrating
  else match c.work with
    | none => .nocal
    | some r =>
      if c.faulted then .fault
      else if c.history.length < r.filterLength then .warmup
      else if c.zeroStatus = .failed then .nozero
      else if c.grossIs fun g => overloadLimit r < g then .over
      else if c.grossIs fun g => g < underloadLimit r then .under
      else if c.stable r then .stable
      else .motion

/-- Reported weight W in grams from a net weight (R68). -/
def reportedWeight (r : CalRecord) (net : Int) : Int := roundDiv net (10 * r.division) * r.division

/-- A reading as it is handed to the channel's user (R68). -/
structure Reading where
  state : ScaleState
  zeroStatus : ZeroStatus
  weight : Option Int
  gross : Option Int
  deriving DecidableEq, Repr

/-- Whether a channel state reports a weight once the zero status is SET (R62). -/
def ScaleState.reports : ScaleState → Bool
  | .stable | .motion => true
  | _ => false

/-- The channel's reading (R68). -/
def Scale.reading (c : Scale) : Reading :=
  match c.work, c.gross with
  | some r, some g =>
    if c.state.reports then ⟨c.state, c.zeroStatus, some (reportedWeight r (g - c.tare)), some (roundDiv g 10)⟩
    else ⟨c.state, c.zeroStatus, none, none⟩
  | _, _ => ⟨c.state, c.zeroStatus, none, none⟩

/-- The stable gross in grams of a channel, absent in any other state (4.2). -/
def Scale.stableGross (c : Scale) : Option Int :=
  let r := c.reading
  if r.state = .stable then r.gross else none

/-- FAULT, NOZERO or NOCAL (R71). -/
def ScaleState.faulty : ScaleState → Bool
  | .fault | .nozero | .nocal => true
  | _ => false

/-- The calibration count a channel reports: 0 when its record fails its check (R55, R58). -/
def Scale.count (c : Scale) : Nat := if c.store.passes then c.store.record.count else 0

/-- A weighing channel by its name. -/
def State.scale (s : State) : ScaleId → Scale
  | .w0 => s.w0
  | .w1 => s.w1

/-- Replace a weighing channel. -/
def State.setScale (s : State) : ScaleId → Scale → State
  | .w0, c => { s with w0 := c }
  | .w1, c => { s with w1 := c }

/-- The channel a request names, 0 or 1. -/
def scaleOf : Nat → Option ScaleId
  | 0 => some .w0
  | 1 => some .w1
  | _ => none

/-! ## Bus (R175, R180) -/

/-- The DATA slots of a channel in slot number order: its group (R175). -/
def dataSlots (t : Vector Slot 16) (ch : ChannelId) : List (Fin 16) :=
  (List.finRange 16).filter fun i => t[i] == .assigned ch .data

/-- The STATUS slot of a channel. -/
def statusSlot (t : Vector Slot 16) (ch : ChannelId) : Option (Fin 16) :=
  (List.finRange 16).find? fun i => t[i] == .assigned ch .status

/-- Whether the table gives a channel a slot at all. -/
def hasSlot (t : Vector Slot 16) (ch : ChannelId) : Bool :=
  (statusSlot t ch).isSome || !(dataSlots t ch).isEmpty

/-- Whether the table gives a channel a DATA slot. -/
def State.hasData (s : State) (ch : ChannelId) : Bool := !(dataSlots s.bus.slots ch).isEmpty

/-- A channel's state. -/
def State.channel (s : State) (ch : ChannelId) : Channel := s.bus.channels[ch]

/-- Whether a channel is PRESENT (R180). -/
def State.present (s : State) (ch : ChannelId) : Bool := (s.channel ch).present

/-- Change a channel's state. -/
def State.modifyChannel (s : State) (ch : ChannelId) (f : Channel → Channel) : State :=
  { s with bus := { s.bus with channels := s.bus.channels.set ch (f s.bus.channels[ch]) } }

/-- The channel's place in the link's addresses (R185). -/
def channelAddress (ch : ChannelId) : Address :=
  match ch with
  | 2 => .channel2
  | 3 => .channel3
  | 4 => .channel4
  | 1 => .other 0x11
  | _ => .other 0x10

/-! ## Card path (R97) -/

/-- Whether a payment is in flight: started and not ended (R97). -/
def State.paymentInFlight (s : State) : Bool :=
  match s.card.session.state with
  | .checked | .awaitResult | .cancelAsked => true
  | _ => false

/-! ## Drawer (R118, R21) -/

/-- The solenoid is driven exactly in PULSING (R120). -/
def Drawer.solenoid (d : Drawer) : Bool := d.state == .pulsing

/-- PULSING or OPENING_WAIT: a release in progress (R21). -/
def DrawerState.releasing : DrawerState → Bool
  | .pulsing | .openingWait => true
  | _ => false

end Sys2Proof.Machine
end

