-- ==== Sys2Proof/Machine/Ops.lean ====
section
/-! DEFINITION. The shared operations: offering replies and notices to the outbound queue, the two parts of
a request's treatment, outbound status values and messages of the bus, prompts, causes and rest texts, the
reader display, and the selections refreshed at the end of every event. -/

namespace Sys2Proof.Machine

/-! ## Outbound queue (R185, R186) -/

/-- Append a frame to the outbound queue. -/
def pushFrame (f : Frame) (s : State) : State := { s with link := { s.link with queue := s.link.queue ++ [f] } }

/-- Whether the outbound queue has a place. -/
def State.queueRoom (s : State) : Bool := s.link.queue.length < Config.outboundCapacity

/-- Whether a reply finds a place: one that no waiting reply and no waiting notice has taken (R186). -/
def State.replyRoom (s : State) : Bool :=
  s.link.replies.isEmpty && s.link.queue.length + s.link.waiters.length < Config.outboundCapacity

/-- Whether a notice finds a place: the queue has room and no notice waits (R186). -/
def State.noticeRoom (s : State) : Bool := s.queueRoom && s.link.waiters.isEmpty

/-- The request at an address is answered: its reply has been queued (R185). -/
def answered (w : WaitingReply) (s : State) : State :=
  if w.answers then { s with link := { s.link with unanswered := s.link.unanswered.erase w.reply.address } } else s

/-- Queue a waiting reply. -/
def queueReply (w : WaitingReply) (s : State) : State := answered w (pushFrame (.reply w.reply) s)

/-- Whether the port takes one more waiting reply (R186). -/
def State.mayWait (s : State) : Bool := s.link.replies.length < Config.waitingReplies

/-- Offer a reply to the outbound queue; without a place it waits, and with 4 waiting already its owner holds
it (R186; log entry 16). -/
def offerReply (w : WaitingReply) (s : State) : State :=
  if s.replyRoom then queueReply w s
  else if s.mayWait then { s with link := { s.link with replies := s.link.replies ++ [w] } }
  else { s with link := { s.link with deferred := s.link.deferred ++ [w] } }

/-- A place among the waiting replies goes to the first reply an owner holds (log entry 16). -/
def admitReply (s : State) : State :=
  match s.link.deferred with
  | w :: rest =>
    if s.mayWait then { s with link := { s.link with replies := s.link.replies ++ [w], deferred := rest } } else s
  | [] => s

/-- The longest waiting reply is queued; `rest` are those behind it. -/
def takeReply (w : WaitingReply) (rest : List WaitingReply) (s : State) : State :=
  admitReply (queueReply w { s with link := { s.link with replies := rest } })

/-- Whether a source holds at most one waiting notice and replaces it (R72, R160, R181). -/
def Source.replaces : Source → Bool
  | .scale _ | .mechanism | .channel _ => true
  | _ => false

/-- Whether a waiter is a notice of a source; the built payment request is the card path's (R106). -/
def Waiter.isFrom (src : Source) : Waiter → Bool
  | .notice s _ => s == src
  | .paymentRequest => src == .card
  | _ => false

/-- Notices a source holds waiting (R186). -/
def waitingFrom (src : Source) (ws : List Waiter) : Nat := (ws.filter (Waiter.isFrom src)).length

/-- Make a notice wait: its source's waiting notice is replaced, or it goes to the end unless the source
holds 16 (R186). -/
def waitNotice (src : Source) (n : Notice) (s : State) : State :=
  let ws := s.link.waiters
  if src.replaces && ws.any (Waiter.isFrom src) then
    { s with link := { s.link with waiters := ws.map fun w => if w.isFrom src then .notice src n else w } }
  else if waitingFrom src ws < Config.waitingNotices then
    { s with link := { s.link with waiters := ws ++ [.notice src n] } }
  else s

/-- Offer a notice to the outbound queue; without a place it waits (R186). -/
def offerNotice (src : Source) (n : Notice) (s : State) : State :=
  if s.noticeRoom then pushFrame (.notice n) s else waitNotice src n s

/-- Give free places to waiting notices, oldest first, up to the first waiter that takes its place by a
step of its own (R186). -/
def drainNotices : Nat → State → State
  | 0, s => s
  | k + 1, s =>
    match s.link.waiters with
    | .notice _ n :: rest =>
      if s.queueRoom then drainNotices k (pushFrame (.notice n) { s with link := { s.link with waiters := rest } }) else s
    | _ => s

/-- Give free places that no waiting notice has taken to waiting replies. -/
def drainReplies : Nat → State → State
  | 0, s => s
  | k + 1, s =>
    match s.link.replies with
    | w :: rest =>
      if s.link.queue.length + s.link.waiters.length < Config.outboundCapacity then
        drainReplies k (takeReply w rest s)
      else s
    | [] => s

/-- Fill the free places of the queue from the waiting notices and replies. -/
def refillQueue (s : State) : State := drainReplies Config.outboundCapacity (drainNotices Config.outboundCapacity s)

/-- The oldest frame has been sent: its place goes to the reply that has waited longest, and to waiting
notices only when no reply waits (R186). -/
def placeFreed (s : State) : State :=
  let s := { s with link := { s.link with queue := s.link.queue.drop 1 } }
  match s.link.replies with
  | w :: rest => refillQueue (takeReply w rest s)
  | [] => refillQueue s

/-- Whether a waiter that is not a plain notice is first and has a place. -/
def State.waiterTurn (s : State) (w : Waiter) : Bool := s.queueRoom && s.link.waiters.head? == some w

/-- Take a waiter out of the line without using its place. -/
def dropWaiter (w : Waiter) (s : State) : State :=
  refillQueue { s with link := { s.link with waiters := s.link.waiters.filter (· != w) } }

/-! ## Requests (R185, R191) -/

/-- A reply DONE to a request of an address. -/
def replyDone (addr : Address) (req : Req) (data : ReplyData) (s : State) : State :=
  offerReply ⟨⟨addr, req, .done data⟩, true⟩ s

/-- A refusal of a request of an address. -/
def replyRefused (addr : Address) (req : Req) (reason : Reason) (s : State) : State :=
  offerReply ⟨⟨addr, req, .refused reason⟩, true⟩ s

/-- Count a dropped frame; the count stops at 65,535 (R184). -/
def countBadFrame (s : State) : State :=
  { s with link := { s.link with badFrames := min 65535 (s.link.badFrames + 1) } }

/-- A request is BUSY while its address holds an unanswered request, one refused with UNKNOWN or BUSY whose reply
waits included, and while a lane reset asked for has not taken effect (R185, R191). -/
def State.requestBusy (s : State) (addr : Address) : Bool :=
  s.lane.reset != .none || s.link.unanswered.contains addr || s.link.replies.any fun w => w.reply.address == addr

/-- A refusal that leaves the unanswered request of its address where it is (R185). -/
def refuseFrame (addr : Address) (req : Req) (reason : Reason) (s : State) : State :=
  offerReply ⟨⟨addr, req, .refused reason⟩, false⟩ s

/-- Mark an address as holding an unanswered request (R185). -/
def markUnanswered (addr : Address) (s : State) : State :=
  { s with link := { s.link with unanswered := s.link.unanswered ++ [addr] } }

/-- Whether a request is routed to its owner: fewer than 4 replies wait, and it is not BUSY (R185, R186). -/
def State.routes (s : State) (addr : Address) : Bool :=
  decide (s.link.replies.length < Config.waitingReplies) && !s.requestBusy addr

/-- A request reaching its address: dropped as an overrun while 4 replies wait, refused with BUSY, or
marked unanswered and taken by its owner (R185, R186). -/
def onRequest (addr : Address) (req : Req) (body : State → State) (s : State) : State :=
  if ¬ s.link.replies.length < Config.waitingReplies then countBadFrame s
  else if s.requestBusy addr then refuseFrame addr req .busy s
  else body (markUnanswered addr s)

/-! ## Bus (R176, R182) -/

/-- Set a channel's outbound status value (R176). -/
def setStatus (ch : ChannelId) (v : BitVec 4) (s : State) : State :=
  s.modifyChannel ch fun c => { c with nextWire := some v }

/-- Whether a channel's transmit queue has room (R182). -/
def State.transmitRoom (s : State) (ch : ChannelId) : Bool :=
  (s.channel ch).transmit.length < Config.transmitCapacity

/-- A message joins a channel's transmit queue (R182). -/
def joinTransmit (ch : ChannelId) (m : TxMessage) (s : State) : State :=
  s.modifyChannel ch fun c => { c with transmit := c.transmit ++ [m] }

/-! ## Display (R166) -/

/-- Offer a display message to channel 2: nothing is sent while it is ABSENT or has no DATA slot, and
without room the message waits, in place of one that waits already (R166, R182). -/
def offerDisplay (m : List Byte) (s : State) : State :=
  if !s.present 2 || !s.hasData 2 then s
  else if s.attention.displayWaiting.isNone && s.transmitRoom 2 then joinTransmit 2 (.bytes m) s
  else { s with attention := { s.attention with displayWaiting := some m } }

/-- Send a prompt text table entry to the display (R163, 11.3). -/
def sendEntry (e : Fin 16) (s : State) : State :=
  offerDisplay (displayMessage (BitVec.ofNat 8 e.val) s.lane.promptTexts[e].1 s.lane.promptTexts[e].2) s

/-- Hand a line text to the display (R11, R166). -/
def sendLineText (row1 row2 : Text) (s : State) : State := offerDisplay (displayMessage 0x20 row1 row2) s

/-- Send the selected rest text (R163). -/
def sendRest (s : State) : State :=
  let r := s.restSelection
  sendEntry r.entry { s with attention := { s.attention with rest := r } }

/-- Take up a changed selection of the rest text: sent while the prompt slot is empty, else recorded
(R163).  Each operation that changes the sale state, the hold or the lane state does so at once, so that a prompt or a
line text of the same event comes behind it. -/
def refreshRest (s : State) : State :=
  if s.restSelection = s.attention.rest then s
  else if s.attention.current.isNone then sendRest s
  else { s with attention := { s.attention with rest := s.restSelection } }

/-! ## Causes (R168, R169, R173) -/

/-- What an ATTENTION notice carries (R173). -/
def attentionReport (s : State) : AttentionNotice :=
  ⟨s.attention.causes, s.attention.primary, s.attention.age, s.attention.hold⟩

/-- Queue an ATTENTION notice (R173). -/
def notifyAttention (s : State) : State := offerNotice .attention (.attention (attentionReport s)) s

/-- A raised cause joins the end of the list, and becomes the primary of an empty one (R168, R172). -/
def listCause (c : Cause) (line : Nat) (detail : Option Int) (s : State) : State :=
  let a := s.attention
  { s with attention := { a with
    causes := a.causes ++ [c]
    primary := if a.causes.isEmpty then some ⟨s.now, s.saleNumber, line, detail, false⟩ else a.primary
    age := if c = .ageCheck then some ⟨s.saleNumber, line⟩ else a.age } }

/-- Raise a cause with a line number and an optional detail (R168); the rest text that the hold selects follows at once
(R163). -/
def raiseCause (c : Cause) (line : Nat) (detail : Option Int) (s : State) : State :=
  if s.attention.causes.contains c then s else notifyAttention (refreshRest (listCause c line detail s))

/-- Remove a listed cause; the next one becomes the primary with a lost context when the primary leaves
(R169, R172). -/
def removeCause (c : Cause) (s : State) : State :=
  let a := s.attention
  let rest := a.causes.filter (· != c)
  { s with attention := { a with
    causes := rest
    primary :=
      if rest.isEmpty then none
      else if a.causes.head? = some c then some ⟨s.now, s.saleNumber, 0, none, true⟩
      else a.primary
    age := if c = .ageCheck then none else a.age } }

/-! ## Prompts (R164, R165, R167) -/

/-- Whether the current prompt is an event prompt. -/
def currentIsEvent (s : State) : Bool :=
  match s.attention.current with
  | some p => p.kind.isEvent
  | none => false

/-- Queue a PROMPT notice (R164). -/
def notifyPrompt (mark : PromptMark) (s : State) : State :=
  offerNotice .attention
    (.prompt ⟨s.attention.current, currentIsEvent s, mark, s.saleNumber, s.attention.conditions⟩) s

/-- A PROMPT notice that reports a promoted prompt: it carries that prompt, and leaves the current prompt as
it was (R167; log entry 20). -/
def notifyPromoted (p : Prompt) (s : State) : State :=
  offerNotice .attention (.prompt ⟨some p, p.kind.isEvent, .promoted, s.saleNumber, s.attention.conditions⟩) s

/-- Record at a raise whether prompts of a kind are sent to the display: the setting is read at each raise
(R167). -/
def recordSetting (k : PromptKind) (s : State) : State :=
  let others := s.attention.silent.filter (· != k)
  { s with attention := { s.attention with
    silent := if s.lane.config.promptsEnabled then others else others ++ [k] } }

/-- How the present setting marks a PROMPT notice (R167). -/
def shownMark (s : State) : PromptMark := if s.lane.config.promptsEnabled then .shown else .reportedOnly

/-- How a prompt of the slot is marked, by the setting its raise found (R167). -/
def promptMark (p : Prompt) (s : State) : PromptMark :=
  if s.attention.silent.contains p.kind then .reportedOnly else .shown

/-- Send a prompt's text, unless its raise found prompts disabled (R164, R167). -/
def showPrompt (p : Prompt) (s : State) : State :=
  if s.attention.silent.contains p.kind then s else sendEntry p.kind.entry s

/-- Send what the slot holds to a display that is back: the current prompt's text, or the rest text
(R166). -/
def sendSlot (s : State) : State :=
  match s.attention.current with
  | some p => showPrompt p s
  | none => sendRest s

/-- The cause a prompt is promoted to while prompts are disabled (R167). -/
def promotedCause : PromptKind → Option Cause
  | .placeItem => some .bagTimeout
  | .weightMismatch => some .bagMismatch
  | .tryCardAgain => some .cardFailures
  | _ => none

/-- Length of an event prompt (R162, R96). -/
def eventPromptTime : Time := 3000

/-- A raised condition prompt joins the end of the condition list, or moves there (R164). -/
def listCondition (p : Prompt) (s : State) : State :=
  if p.kind.isEvent then s
  else { s with attention := { s.attention with
    conditions := s.attention.conditions.filter (fun q => q.kind != p.kind) ++ [p] } }

/-- Start the event timer of an event prompt; a condition prompt has none (R162, R164). -/
def startEventTimer (p : Prompt) (s : State) : State :=
  { s with attention := { s.attention with
    eventDeadline := if p.kind.isEvent then some (s.now + eventPromptTime) else none } }

/-- Raise a prompt in the slot (R164). -/
def takePrompt (p : Prompt) (s : State) : State :=
  let s := listCondition p s
  if s.attention.current = some p then startEventTimer p s
  else
    let s := startEventTimer p (recordSetting p.kind { s with attention := { s.attention with current := some p } })
    notifyPrompt (promptMark p s) (showPrompt p s)

/-- Raise a prompt; `line` and `detail` are those of the cause it is promoted to while prompts are disabled
(R164, R167).  ATTENTION of the cause is offered before the PROMPT marked promoted (DESIGN CHOICE, log entry 15). -/
def raisePrompt (p : Prompt) (line : Nat) (detail : Option Int) (s : State) : State :=
  match s.lane.config.promptsEnabled, promotedCause p.kind with
  | false, some c => notifyPromoted p (raiseCause c line detail s)
  | _, _ => takePrompt p s

/-- Raise a prompt that is never promoted and has no direction. -/
def raiseSimple (k : PromptKind) (s : State) : State := raisePrompt ⟨k, none⟩ 0 none s

/-- The current prompt has left: the latest condition prompt returns, or the slot is empty (R165).  The PROMPT
notice of an emptied slot is marked by the present setting (DESIGN CHOICE, log entry 20). -/
def fallBack (s : State) : State :=
  match s.attention.conditions.getLast? with
  | some p =>
    let s := { s with attention := { s.attention with current := some p, eventDeadline := none } }
    notifyPrompt (promptMark p s) (showPrompt p s)
  | none =>
    let s := { s with attention := { s.attention with current := none, eventDeadline := none } }
    notifyPrompt (shownMark s) (sendRest s)

/-- Whether the current prompt is of a kind. -/
def State.currentKindIs (s : State) (k : PromptKind) : Bool :=
  match s.attention.current with
  | some p => p.kind == k
  | none => false

/-- Withdraw a condition prompt by its kind (R165). -/
def withdrawPrompt (k : PromptKind) (s : State) : State :=
  if s.attention.conditions.any fun p => p.kind == k then
    let s' := { s with attention := { s.attention with conditions := s.attention.conditions.filter fun p => p.kind != k } }
    if s.currentKindIs k then fallBack s' else s'
  else s

/-- An event prompt of a kind leaves the slot if it is current (R165, R97). -/
def dropEventPrompt (k : PromptKind) (s : State) : State :=
  if k.isEvent && s.currentKindIs k then fallBack s else s

/-! ## Reader display (R96) -/

/-- The light value of R96. -/
def State.lightSelection (s : State) : BitVec 4 :=
  match s.card.session.state with
  | .done => 4
  | .checked | .awaitResult | .cancelAsked => 3
  | .noCard | .preRead => if s.lane.ready && s.saleRunning then 2 else 1

/-- The readiness message of a light value (R96). -/
def readinessOf (light : BitVec 4) : ReaderOut := if light = 2 then .ready else .notReady

/-- READY and NOT_READY count as one kind (R96). -/
def isReadiness : ReaderOut → Bool
  | .ready | .notReady => true
  | .prompt _ _ => false

/-- Hold a reader message until the transmit queue has room, in place of one of its kind (R96). -/
def holdReader (m : ReaderOut) (ws : List ReaderOut) : List ReaderOut :=
  if ws.any fun w => isReadiness w == isReadiness m then
    ws.map fun w => if isReadiness w == isReadiness m then m else w
  else ws ++ [m]

/-- The 3,000 ms of a reader event prompt run from its sending, which is when its PROMPT message joins the
transmit queue (R96; log entry 29). -/
def promptSent (m : ReaderOut) (s : State) : State :=
  match m, s.card.prompt with
  | .prompt _ _, some p =>
    if p.kind = .removeCard then s
    else { s with card := { s.card with prompt := some { p with deadline := some (s.now + eventPromptTime) } } }
  | _, _ => s

/-- A message to the reader joins channel 1's transmit queue (R96, R182). -/
def joinReader (m : ReaderOut) (s : State) : State := promptSent m (joinTransmit 1 (.reader m) s)

/-- Offer a message to the reader: nothing is sent while channel 1 is ABSENT or has no DATA slot (R96,
R182). -/
def offerReader (m : ReaderOut) (s : State) : State :=
  if !s.present 1 || !s.hasData 1 then s
  else if s.card.waiting.isEmpty && s.transmitRoom 1 then joinReader m s
  else { s with card := { s.card with waiting := holdReader m s.card.waiting } }

/-- Send the current readiness message (R96). -/
def sendReadiness (s : State) : State := offerReader (readinessOf s.card.light) s

/-- Take up a changed light value: it goes on the status slot, and a change of readiness is sent (R96). -/
def refreshReader (s : State) : State :=
  let old := s.card.light
  let new := s.lightSelection
  if new = old then s
  else
    let s := setStatus 1 new { s with card := { s.card with light := new } }
    if readinessOf old = readinessOf new then s else sendReadiness s

/-- Prompt text table entry of a reader prompt (R96, R163). -/
def ReaderPromptKind.entry : ReaderPromptKind → Fin 16
  | .tryCardAgain => 7
  | .cardDeclined => 8
  | .removeCard => 6

/-- The PROMPT message of a reader prompt. -/
def readerPromptMessage (k : ReaderPromptKind) (s : State) : ReaderOut :=
  .prompt s.lane.promptTexts[k.entry].1 s.lane.promptTexts[k.entry].2

/-- Show a prompt on the reader, in place of the current one (R96). -/
def raiseReaderPrompt (k : ReaderPromptKind) (s : State) : State :=
  offerReader (readerPromptMessage k s) { s with card := { s.card with prompt := some ⟨k, none⟩ } }

/-- The current reader prompt ends (R96).  Its PROMPT message is dropped with it where it is still held (DESIGN CHOICE,
log entry 29: R96 names a newer message and the channel's ABSENT as what ends a held one). -/
def dropReaderPrompt (s : State) : State :=
  { s with card := { s.card with prompt := none, waiting := s.card.waiting.filter isReadiness } }

/-- A reader event prompt ends: the readiness is sent again (R96). -/
def endReaderPrompt (s : State) : State := sendReadiness (dropReaderPrompt s)

/-! ## Scanner status slot (R38) -/

/-- Take up a changed gate value; under a tone it is only recorded (R38). -/
def refreshGate (s : State) : State :=
  if s.gateSelection = s.scan.gate then s
  else
    let s' := { s with scan := { s.scan with gate := s.gateSelection } }
    if s.scan.tone.isSome then s' else setStatus 0 (gateCode s.gateSelection) s'

/-- Send a tone on the scanner's status slot (R38). -/
def sendTone (t : Tone) (s : State) : State := setStatus 0 (toneCode t) { s with scan := { s.scan with tone := some t } }

/-! ## End of an event -/

/-- What other blocks select from the state follows every event that may have changed it: the scanner's
gate (R38), the display's rest text (R163) and the reader's light (R96). -/
def publish (s : State) : State := refreshReader (refreshRest (refreshGate s))

/-- A deadline a number of milliseconds from now (00_scope 4.4). -/
def State.deadline (s : State) (ms : Nat) : Time := s.now + BitVec.ofNat 32 ms

end Sys2Proof.Machine
end

