-- ==== Sys2Proof/Machine/Weighing.lean ====
section
/-! DEFINITION. The weighing channels of chapter 3: the chain from sample to reading, faults and recovery,
calibration, zero and tare, and the meanings of the requests that act on a channel. -/

namespace Sys2Proof.Machine

/-! ## The chain (R59, R60, R61, R63, R65) -/

/-- The converter's rails (R53). -/
def isRail (r : BitVec 24) : Bool := r == 0x800000#24 || r == 0x7FFFFF#24

/-- Conversion of a sample to fine units (R59). -/
def convert (cal : CalRecord) (r : BitVec 24) : Int :=
  clampInt (-1000000) 1000000 (roundDiv ((r.toInt - cal.zeroOffset) * cal.gain) (2 ^ 20))

/-- Append to a history of at most `n` values, dropping the oldest (R60, R61). -/
def pushBounded (n : Nat) (l : List Int) (x : Int) : List Int :=
  let l' := l ++ [x]
  l'.drop (l'.length - n)

/-- The average of a filter history (R60). -/
def averageOf (h : List Int) : Int := (h.sum + (h.length / 2 : Nat)) / h.length

/-- The initial zero, attempted while the zero status is PENDING (R63). -/
def initialZero (cal : CalRecord) (a : Int) (c : Scale) : Scale :=
  if c.zeroStatus = .pending ∧ c.stable cal = true then
    if a.natAbs ≤ cal.capacity then { c with zeroStatus := .set, zero := some a, zeroInit := some a }
    else { c with zeroStatus := .failed }
  else c

/-- The 2 % bound of ZERO and tracking, measured from the initial zero (R64, R65). -/
def zeroBound (cal : CalRecord) (a zInit : Int) : Bool := (a - zInit).natAbs ≤ cal.capacity / 5

/-- The conditions on the channel itself for an average to count in the tracking run (R65). -/
def tracksZero (cal : CalRecord) (a : Int) (c : Scale) : Bool :=
  c.state == .stable && c.tare == 0 && !c.capturePending
    && (match c.zero with | some z => decide ((a - z).natAbs ≤ 5 * cal.division) | none => false)

/-- Zero tracking at an average; `saleAllows` is the sale condition of W0 (R65). -/
def track (cal : CalRecord) (saleAllows : Bool) (a : Int) (c : Scale) : Scale :=
  if cal.zeroTracking && saleAllows && tracksZero cal a c then
    if c.trackRun + 1 < 100 then { c with trackRun := c.trackRun + 1 }
    else
      match c.zeroInit with
      | some zi => if zeroBound cal a zi then { c with zero := some a, trackRun := 0 } else { c with trackRun := 0 }
      | none => { c with trackRun := 0 }
  else { c with trackRun := 0 }

/-- One converted sample through the chain (R59 to R65). -/
def runChain (cal : CalRecord) (saleAllows : Bool) (r : BitVec 24) (c : Scale) : Scale :=
  let history := pushBounded cal.filterLength c.history (convert cal r)
  let a := averageOf history
  let c := { c with history := history, average := a }
  if history.length < cal.filterLength then c
  else
    let c := { c with window := pushBounded cal.windowLength c.window a }
    track cal saleAllows a (initialZero cal a c)

/-- The sale condition of zero tracking (R65): W0 tracks in IDLE and OPEN only. -/
def State.trackingAllowed (s : State) : ScaleId → Bool
  | .w0 => s.sale.state == .idle || s.sale.state == .opened
  | .w1 => true

/-! ## Faults and restarts (R70, R74) -/

/-- Enter FAULT (R70). -/
def enterFault (c : Scale) : Scale :=
  { c with faulted := true, history := [], window := [], trackRun := 0, railCount := 0, recoveryCount := 0 }

/-- Restart in WARMUP on leaving FAULT: references and tare are kept (R60, R70). -/
def leaveFault (c : Scale) : Scale :=
  { c with faulted := false, history := [], window := [], trackRun := 0, railCount := 0, recoveryCount := 0 }

/-- What an arriving sample does to its channel (R53, R70). -/
def arrive (now : Time) (saleAllows : Bool) (r : BitVec 24) (c : Scale) : Scale :=
  match c.state, c.work with
  | .calibrating, _ => c
  | .nocal, _ => c
  | _, none => c
  | .fault, some cal =>
    let c := { c with absenceStart := some now }
    if isRail r then { c with recoveryCount := 0 }
    else if c.recoveryCount + 1 < 10 then { c with recoveryCount := c.recoveryCount + 1 }
    else runChain cal saleAllows r (leaveFault c)
  | _, some cal =>
    let c := { c with absenceStart := some now }
    if isRail r then
      if c.railCount + 1 < 3 then runChain cal saleAllows r { c with railCount := c.railCount + 1 } else enterFault c
    else runChain cal saleAllows r { c with railCount := 0 }

/-- Expiry of the absence timer (R70). -/
def absenceExpires (now : Time) (c : Scale) : Scale :=
  match c.state with
  | .calibrating | .nocal => c
  | .fault => { c with recoveryCount := 0, absenceStart := some now }
  | _ => { enterFault c with absenceStart := some now }

/-- Restart at a lane reset: the zero references and the record are kept (R74). -/
def laneRestart (now : Time) (c : Scale) : Scale :=
  { c with
    faulted := false, history := [], window := [], tare := 0, capturePending := false
    railCount := 0, recoveryCount := 0, trackRun := 0
    absenceStart := if c.work.isSome then some now else none }

/-! ## Notices and causes (R71, R72) -/

/-- The scale cause of a channel (R71). -/
def scaleCause : ScaleId → Cause
  | .w0 => .produceScaleFault
  | .w1 => .baggingScaleFault

/-- A change reported by SCALE_STATE: every change but between STABLE and MOTION (R72). -/
def reportsChange (old new : ScaleState) : Bool :=
  old != new && !((old == .stable || old == .motion) && (new == .stable || new == .motion))

/-- Queue a SCALE_STATE notice (R72). -/
def notifyScale (id : ScaleId) (s : State) : State :=
  let c := s.scale id
  offerNotice (.scale id) (.scaleState id c.state c.zeroStatus c.count c.reading.weight) s

/-- Whether a SCALE_STATE of a channel waits for room (R72). -/
def State.scaleStateWaits (s : State) (id : ScaleId) : Bool := s.link.waiters.any (Waiter.isFrom (.scale id))

/-- Report a channel's change of state, and raise its cause when it enters a faulty state during a sale
(R71, R72).  While a SCALE_STATE waits, every change replaces its content, one between STABLE and MOTION too (R72).
SCALE_STATE is offered before the cause is raised (DESIGN CHOICE, log entry 15). -/
def scaleChanged (id : ScaleId) (old : ScaleState) (s : State) : State :=
  let new := (s.scale id).state
  let s := if reportsChange old new ∨ (old ≠ new ∧ s.scaleStateWaits id = true) then notifyScale id s else s
  if old ≠ new ∧ new.faulty = true ∧ s.saleRunning = true then raiseCause (scaleCause id) 0 none s else s

/-- Raise a channel's cause at the opening of a sale (R71). -/
def scaleAtOpening (id : ScaleId) (s : State) : State :=
  if (s.scale id).state.faulty then raiseCause (scaleCause id) 0 none s else s

/-! ## Calibration (R54 to R58) -/

/-- Defaults of a channel's record (R54): capacity, division, filter length, window length. -/
def calDefaults : ScaleId → Nat × Nat × Nat × Nat
  | .w0 => (15000, 5, 8, 10)
  | .w1 => (30000, 2, 16, 20)

/-- The record a CAL_WRITE stores, or `none` where it is refused with RANGE (R54, R56). -/
def calRecordOf (id : ScaleId) (count : Nat) (w : CalWrite) : Option CalRecord :=
  let (cap, d, n, m) := calDefaults id
  let division := w.division.getD d
  let filter := w.filterLength.getD n
  match w.zeroOffset, w.gain, w.zeroTracking with
  | _, _, .invalid => none
  | some c0, some g, tracking =>
    if [1, 2, 5, 10, 20].contains division && [1, 2, 4, 8, 16, 32].contains filter then
      some {
        zeroOffset := clampInt (-8388608) 8388607 c0
        gain := clampNat 1 16777215 g
        capacity := clampNat 1000 60000 (w.capacity.getD cap)
        division := division
        filterLength := filter
        windowLength := clampNat 5 50 (w.windowLength.getD m)
        motionBand := match w.motionBand with | some b => clampNat 1 500 b | none => 10 * division
        zeroTracking := match tracking with | .given t => t | _ => true
        count := count }
    else none
  | _, _, _ => none

/-- The calibration count of the next write (R57). -/
def nextCount (c : Scale) : Nat :=
  match c.work with
  | some r => min 65535 (r.count + 1)
  | none => 1

/-- The nonvolatile write begins (R57). -/
def beginWrite (r : CalRecord) (c : Scale) : Scale := { c with writing := some r, absenceStart := none }

/-- The nonvolatile write has ended: the new record works and the channel restarts (R57). -/
def endWrite (now : Time) (r : CalRecord) (c : Scale) : Scale :=
  { c with
    store := ⟨r, true⟩, work := some r, writing := none, faulted := false, history := [], window := []
    zeroStatus := .pending, zero := none, zeroInit := none, tare := 0
    railCount := 0, recoveryCount := 0, trackRun := 0, absenceStart := some now }

/-- The record CAL_READ reports: a failing record has count 0 (R58). -/
def shownRecord (c : Scale) : CalRecord :=
  if c.store.passes then c.store.record else { c.store.record with count := 0 }

/-- The seal input's level as a command finds it: its last operand, open where none is written (R56; log
entry 2). -/
def setSeal (sealOpen : Bool) (s : State) : State := { s with pins := { s.pins with sealOpen := sealOpen } }

/-- CAL_WRITE (R56, R57).  Its reply follows at the end of the write. -/
def calWriteBody (channel : Nat) (w : CalWrite) (s : State) : State :=
  match scaleOf channel with
  | none => replyRefused .management .calWrite .range s
  | some id =>
    let c := s.scale id
    if !s.pins.sealOpen then replyRefused .management .calWrite .locked s
    else if s.saleRunning then replyRefused .management .calWrite .state s
    else match calRecordOf id (nextCount c) w with
      | none => replyRefused .management .calWrite .range s
      | some r => scaleChanged id c.state (s.setScale id (beginWrite r c))

def execCalWrite (channel : Nat) (w : CalWrite) (s : State) (sealOpen : Bool := true) : Outcome :=
  .next (publish (onRequest .management .calWrite (fun s => calWriteBody channel w (setSeal sealOpen s)) s))

/-- The channel whose write is in flight; there is at most one (R56). -/
def writingChannel (s : State) : Option (ScaleId × CalRecord) :=
  match s.w0.writing, s.w1.writing with
  | some r, _ => some (.w0, r)
  | none, some r => some (.w1, r)
  | none, none => none

/-- The write of a channel has ended: the channel restarts, and the reply carries the record and the seal
state as it stands (R57). -/
def finishWrite (id : ScaleId) (r : CalRecord) (s : State) : State :=
  let c := s.scale id
  let s := scaleChanged id c.state (s.setScale id (endWrite s.now r c))
  replyDone .management .calWrite (.calibration r true s.pins.sealOpen) s

/-- CAL_WRITE_COMPLETE (R57): the end of the nonvolatile write. -/
def execCalWriteComplete (s : State) (sealOpen : Bool := true) : Outcome :=
  match writingChannel s with
  | none => .next s
  | some (id, r) => .next (publish (finishWrite id r (setSeal sealOpen s)))

/-- CAL_READ (R58). -/
def calReadBody (channel : Nat) (s : State) : State :=
  match scaleOf channel with
  | none => replyRefused .management .calRead .range s
  | some id =>
    let c := s.scale id
    replyDone .management .calRead (.calibration (shownRecord c) c.store.passes s.pins.sealOpen) s

def execCalRead (channel : Nat) (s : State) (sealOpen : Bool := true) : Outcome :=
  .next (onRequest .management .calRead (fun s => calReadBody channel (setSeal sealOpen s)) s)

/-! ## Zero, tare and weight (R64, R66, R73) -/

/-- What decides a ZERO (R64): a refusal, or the latest average as the new zero. -/
def zeroTest (id : ScaleId) (c : Scale) (saleRunning : Bool) : Except Reason Int :=
  let a := c.average
  match c.work with
  | some r =>
    if !(c.state == .stable || c.state == .nozero || c.state == .under) then .error .state
    else if !c.stable r then .error .state
    else if c.tare != 0 || c.capturePending then .error .state
    else if id == .w1 && saleRunning && c.state != .nozero then .error .state
    else if !zeroBound r a (if c.zeroStatus = .failed then 0 else c.zeroInit.getD 0) then .error .range
    else .ok a
  | none => .error .state

/-- The zero taken by an accepted ZERO (R64). -/
def takeZero (a : Int) (c : Scale) : Scale :=
  { c with
    zero := some a, zeroStatus := .set, trackRun := 0
    zeroInit := if c.zeroStatus = .failed then some a else c.zeroInit }

/-- ZERO (R64). -/
def zeroBody (channel : Nat) (s : State) : State :=
  match scaleOf channel with
  | none => replyRefused .management .zero .range s
  | some id =>
    let c := s.scale id
    match zeroTest id c s.saleRunning with
    | .error reason => replyRefused .management .zero reason s
    | .ok a =>
      let c' := takeZero a c
      replyDone .management .zero (.zeroed a c'.state (c'.reading.weight.getD 0))
        (scaleChanged id c.state (s.setScale id c'))

def execZero (channel : Nat) (s : State) : Outcome :=
  .next (publish (onRequest .management .zero (zeroBody channel) s))

/-- TARE (R66). -/
def tareBody (channel operation : Nat) (s : State) : State :=
  match scaleOf channel, operation with
  | some id, 1 =>
    let c := s.scale id
    match c.state, c.capturePending, c.gross with
    | .stable, false, some g =>
      if g ≤ 0 then replyRefused .management .tare .range s
      else
        let c' := { c with tare := g }
        replyDone .management .tare (.tareTaken g (c'.reading.weight.getD 0)) (s.setScale id c')
    | _, _, _ => replyRefused .management .tare .state s
  | some id, 0 =>
    let c := s.scale id
    if c.capturePending then replyRefused .management .tare .state s
    else
      let c' := { c with tare := 0 }
      replyDone .management .tare (.tareCleared c'.reading.weight) (s.setScale id c')
  | _, _ => replyRefused .management .tare .range s

def execTare (channel operation : Nat) (s : State) : Outcome :=
  .next (onRequest .management .tare (tareBody channel operation) s)

/-- What WEIGHT_READ reports of a channel (R73). -/
def weightReport (c : Scale) : WeightReport where
  state := c.state
  zeroStatus := c.zeroStatus
  weight := c.reading.weight
  gross := c.reading.gross
  inMotion := c.state == .motion && c.reading.weight.isSome
  tare := c.tare
  capturePending := c.capturePending
  zero := c.zero
  zeroInit := c.zeroInit
  average := c.average
  count := c.count

/-- WEIGHT_READ (R73). -/
def weightReadBody (channel : Nat) (s : State) : State :=
  match scaleOf channel with
  | none => replyRefused .management .weightRead .range s
  | some id => replyDone .management .weightRead (.weight (weightReport (s.scale id))) s

def execWeightRead (channel : Nat) (s : State) : Outcome :=
  .next (onRequest .management .weightRead (weightReadBody channel) s)

end Sys2Proof.Machine
end

