-- ==== Sys2Proof/Machine/Scans.lean ====
section
/-! DEFINITION. Scan intake (chapters 2 and 4.1): the cache search, the lookup list, entries resolving and
leaving the queue, and the capture on W0. -/

namespace Sys2Proof.Machine

/-! ## Cache search (R41, R42) -/

/-- A way of a set. -/
def CacheSet.way (c : CacheSet) : Way → Option CacheEntry
  | .zero => c.way0
  | .one => c.way1

/-- Replace a way of a set. -/
def CacheSet.setWay (c : CacheSet) : Way → Option CacheEntry → CacheSet
  | .zero, e => { c with way0 := e }
  | .one, e => { c with way1 := e }

/-- The other way. -/
def Way.other : Way → Way
  | .zero => .one
  | .one => .zero

/-- Whether a way holds a valid entry with a code. -/
def holdsCode (e : Option CacheEntry) (code : Code) : Bool :=
  match e with
  | some x => x.code == code
  | none => false

/-- The way of a code's set that holds a valid entry with the code (R42). -/
def cacheWay (sets : Vector CacheSet 256) (code : Code) : Option Way :=
  let c := sets[setOf code]
  if holdsCode c.way0 code then some .zero
  else if holdsCode c.way1 code then some .one
  else none

/-- The valid entry with a code (R42). -/
def cacheEntry (sets : Vector CacheSet 256) (code : Code) : Option CacheEntry :=
  match cacheWay sets code with
  | some w => (sets[setOf code]).way w
  | none => none

/-- Change a set. -/
def modifySet (sets : Vector CacheSet 256) (i : Fin 256) (f : CacheSet → CacheSet) : Vector CacheSet 256 :=
  sets.set i (f sets[i])

/-- A hit makes the LRU mark name the other way (R42). -/
def touchWay (i : Fin 256) (w : Way) (s : State) : State :=
  { s with cache := { s.cache with sets := modifySet s.cache.sets i fun c => { c with lru := w.other } } }

/-! ## Entries of the scan queue (R33, R35, R36) -/

/-- Replace the scan queue. -/
def setQueue (q : List ScanEntry) (s : State) : State := { s with scan := { s.scan with queue := q } }

/-- Replace the lookup list. -/
def setLookups (l : List Lookup) (s : State) : State := { s with scan := { s.scan with lookups := l } }

/-- Change an entry of the queue. -/
def modifyEntry (i : Nat) (f : ScanEntry → ScanEntry) (s : State) : State := setQueue (s.scan.queue.modify i f) s

/-- Whether an entry is LOOKUP_PENDING on a code. -/
def ScanEntry.waitsOn (e : ScanEntry) (code : Code) : Bool := e.state == .lookupPending && e.lookup == code

/-- Queue SCAN_REFUSED (R34). -/
def notifyRefused (source : ScanSource) (received : Text) (reason : ScanReason) (s : State) : State :=
  offerNotice .scanIntake (.scanRefused source received reason s.saleNumber) s

/-- The reject tone of a SCANNER code (R34, R36). -/
def rejectTone (source : ScanSource) (s : State) : State :=
  match source with
  | .scanner => sendTone .reject s
  | .keyed => s

/-- The prompt of a removal (R36); those of no weight and sale full are its owner's. -/
def removalPrompt : ScanReason → Option PromptKind
  | .timeout => some .scanAgain
  | .unknown | .rule => some .itemUnknown
  | _ => none

/-- The capture ends: W0 clears its tare and mark, the timer stops and the capture's prompts are withdrawn
(R67, R76, R77). -/
def endCapture (s : State) : State :=
  let s := { s with
    w0 := { s.w0 with tare := 0, capturePending := false }
    scan := { s.scan with capture := none } }
  withdrawPrompt .waitWeight (withdrawPrompt .placeOnScale s)

/-- A code leaves the lookup list when no entry waits on it (R36, R39). -/
def pruneLookup (code : Code) (s : State) : State :=
  if s.scan.queue.any (ScanEntry.waitsOn · code) then s
  else setLookups (s.scan.lookups.filter fun l => l.code != code) s

/-- Remove the entry at a position with a reason (R36). -/
def removeEntry (i : Nat) (reason : ScanReason) (s : State) : State :=
  match s.scan.queue[i]? with
  | none => s
  | some e =>
    let s := setQueue (s.scan.queue.eraseIdx i) s
    let s := if e.state = .lookupPending then pruneLookup e.lookup s else s
    let s := if e.state = .capturePending then endCapture s else s
    let s := rejectTone e.source (notifyRefused e.source e.received reason s)
    match removalPrompt reason with
    | some k => raiseSimple k s
    | none => s

/-- What becomes of a resolved entry by its article's kind and its rule's action (R35): READY, or RESOLVED
until it is the head, or `none` where it is removed with reason rule. -/
def resolvedState (kind : ArticleKind) (action : Option RuleAction) : Option EntryState :=
  match action, kind with
  | some .embedPrice, _ => some .ready
  | some .embedWeight, .weighed => some .ready
  | some .embedWeight, .counted => none
  | _, .counted => some .ready
  | _, .weighed => some .resolved

/-- An entry's rule action. -/
def ScanEntry.action (e : ScanEntry) : Option RuleAction := e.rule.map AppliedRule.action

/-- Resolve the entry at a position with a copy of an article; the result says whether it stayed in the
queue (R35). -/
def resolveEntry (i : Nat) (a : Article) (s : State) : State × Bool :=
  match s.scan.queue[i]? with
  | none => (s, true)
  | some e =>
    match resolvedState a.kind e.action with
    | some st => (modifyEntry i (fun e => { e with article := some a, state := st }) s, true)
    | none =>
      (removeEntry i .rule (modifyEntry i (fun e => { e with article := some a, state := .resolved }) s), false)

/-! ## Capture (R75, R76, R77) -/

/-- Start the capture of the head (R75). -/
def beginCapture (tare : Nat) (s : State) : State :=
  let s := modifyEntry 0 (fun e => { e with state := .capturePending }) s
  { s with
    w0 := { s.w0 with tare := tare * 10, capturePending := true, trackRun := 0 }
    scan := { s.scan with capture := some ⟨s.deadline s.lane.config.captureLimit, none, false, false⟩ } }

/-- Whether the head is a RESOLVED weighed entry, with the tare of its article (R75). -/
def captureTare (q : List ScanEntry) : Option Nat :=
  match q.head? with
  | some e => if e.state = .resolved then e.article.map Article.tare else none
  | none => none

/-- Start the capture of a RESOLVED head; while W0 is faulty the head is removed with reason no weight, and
so on for the next head (R75, R77). -/
def advanceHead : Nat → State → State
  | 0, s => s
  | k + 1, s =>
    match captureTare s.scan.queue with
    | none => s
    | some tare =>
      let s := beginCapture tare s
      if s.w0.state.faulty then advanceHead k (removeEntry 0 .noWeight s) else s

/-- The head of the queue may have changed: a new weighed head starts its capture (R36, R75). -/
def headChanged (s : State) : State := advanceHead (Config.scanCapacity + 1) s

/-- The capture fails: the head is removed with reason no weight (R77). -/
def failCapture (s : State) : State := headChanged (removeEntry 0 .noWeight s)

/-- Change the capture's marks. -/
def setCapture (c : Capture) (s : State) : State := { s with scan := { s.scan with capture := some c } }

/-- A reading of W0 with a capture pending that does not end it (R76).  A reading that raises PLACE_ON_SCALE and ends
WAIT_WEIGHT raises the one before it withdraws the other (DESIGN CHOICE, log entry 15). -/
def captureWaits (c : Capture) (r : Reading) (below : Bool) (s : State) : State :=
  let placeNow := r.state == .stable && below
  let s :=
    if placeNow && !c.placePrompt then raiseSimple .placeOnScale s
    else if !placeNow && c.placePrompt then withdrawPrompt .placeOnScale s
    else s
  let inMotion := r.state == .motion
  let s := if !inMotion && c.waitPrompt then withdrawPrompt .waitWeight s else s
  setCapture { c with
    placePrompt := placeNow
    waitPrompt := inMotion && c.waitPrompt
    motionSince := if inMotion then some (c.motionSince.getD s.now) else none } s

/-- A reading of W0 reaching the capture (R76). -/
def captureReading (s : State) : State :=
  match s.scan.capture, s.w0.work with
  | some c, some cal =>
    let r := s.w0.reading
    match r.state, r.weight with
    | .stable, some w =>
      if 20 * (cal.division : Int) ≤ w ∧ w ≤ cal.capacity then
        headChanged (endCapture (modifyEntry 0 (fun e => { e with weight := some w, state := .ready }) s))
      else captureWaits c r (decide (w < 20 * (cal.division : Int))) s
    | _, _ => captureWaits c r false s
  | _, _ => s

/-- W0 entering FAULT or NOZERO ends a pending capture (R77). -/
def captureFaults (old : ScaleState) (s : State) : State :=
  let new := s.w0.state
  if s.scan.capture.isSome ∧ old ≠ new ∧ (new = .fault ∨ new = .nozero) then failCapture s else s

/-! ## Lookup list (R39, R40) -/

/-- Queue LOOKUP_REQUEST for an entry (R39). -/
def notifyLookup (e : ScanEntry) (noCache : Bool) (s : State) : State :=
  offerNotice .scanIntake (.lookupRequest e.lookup noCache e.received (e.rule.map AppliedRule.number)) s

/-- An entry that has become LOOKUP_PENDING joins the lookup list (R39). -/
def joinLookup (e : ScanEntry) (s : State) : State :=
  let direct := e.action == some .direct
  let deadline := some (s.deadline s.lane.config.lookupLimit)
  if s.scan.lookups.any fun l => l.code == e.lookup then
    if direct then
      notifyLookup e true (setLookups (s.scan.lookups.map fun l =>
        if l.code == e.lookup then { l with deadline := deadline, noCache := true } else l) s)
    else s
  else notifyLookup e direct (setLookups (s.scan.lookups ++ [⟨e.lookup, deadline, direct⟩]) s)

/-- The entry at a position leaves CHECKING (R35). -/
def checkEntry (i : Nat) (s : State) : State :=
  match s.scan.queue[i]? with
  | none => s
  | some e =>
    let miss := joinLookup e (modifyEntry i (fun e => { e with state := .lookupPending }) s)
    if e.action = some .direct then miss
    else
      match cacheWay s.cache.sets e.lookup, cacheEntry s.cache.sets e.lookup with
      | some w, some x => (resolveEntry i x.article (touchWay (setOf e.lookup) w s)).1
      | _, _ => miss

/-- The deadline of a code's lookup request is dropped: a fill for it is being taken (R40). -/
def dropDeadline (code : Code) (s : State) : State :=
  setLookups (s.scan.lookups.map fun l => if l.code == code then { l with deadline := none } else l) s

/-- Remove every entry waiting on a code, and the code from the list; the number removed (R40, R45).  The oldest
goes first (DESIGN CHOICE, log entry 15). -/
def removeWaiting (code : Code) (reason : ScanReason) : Nat → State → State × Nat
  | 0, s => (s, 0)
  | k + 1, s =>
    match s.scan.queue.findIdx? (ScanEntry.waitsOn · code) with
    | none => (s, 0)
    | some i =>
      let (s', n) := removeWaiting code reason k (removeEntry i reason s)
      (s', n + 1)

/-- Resolve every entry waiting on a code with a copy of an article; the number resolved (R45).  The oldest goes
first (DESIGN CHOICE, log entry 15). -/
def resolveWaiting (code : Code) (a : Article) : Nat → State → State × Nat
  | 0, s => (s, 0)
  | k + 1, s =>
    match s.scan.queue.findIdx? (ScanEntry.waitsOn · code) with
    | none => (s, 0)
    | some i =>
      let (s', n) := resolveWaiting code a k (resolveEntry i a s).1
      (s', n + 1)

/-- A fill acts on the scan queue; the number of entries resolved or removed (R45). -/
def fillScans (code : Code) (content : Option Article) (s : State) : State × Nat :=
  if s.scan.lookups.any fun l => l.code == code then
    let (s, n) :=
      match content with
      | some a => resolveWaiting code a Config.scanCapacity s
      | none => removeWaiting code .unknown Config.scanCapacity s
    (headChanged (setLookups (s.scan.lookups.filter fun l => l.code != code) s), n)
  else (s, 0)

/-- The queue is emptied without notices, tones or prompts, a capture is ended and the lookup list is
emptied (R36). -/
def emptyQueue (s : State) : State :=
  let s := if s.scan.capture.isSome then endCapture s else s
  setLookups [] (setQueue [] s)

end Sys2Proof.Machine
end

