-- ==== Sys2Proof/Machine/Bagging.lean ====
section
/-! DEFINITION. The bagging check (4.3 to 4.6): baseline, expectations, deviations, acceptances, and the
attendant's clearances. -/

namespace Sys2Proof.Machine

/-! ## State changes and notices (R80, R94) -/

/-- Replace the bagging check's state record. -/
def setBagging (b : Bagging) (s : State) : State := { s with bagging := b }

/-- Replace the lines of the sale. -/
def setLines (ls : List SaleLine) (s : State) : State := { s with sale := { s.sale with lines := ls } }

/-- The expectation as BAG_CHECK carries it (R94). -/
def reportedExpectation (e : Expectation) : Expectation := { e with timerStart := none, latest := none }

/-- Queue a BAG_CHECK notice naming the lines an event changed (R94). -/
def notifyBag (changed : List (Nat × BagState)) (s : State) : State :=
  let b := s.bagging
  offerNotice .bagging (.bagCheck {
    state := b.state
    baseline := b.baseline
    expectation := b.expectation.map reportedExpectation
    delta := b.delta
    skips := b.skips
    changed := changed }) s

/-- Queue a BAG_CHECK notice where the check's state or a line's bag state has changed (R94). -/
def bagChanged (old : BagCheckState) (changed : List (Nat × BagState)) (s : State) : State :=
  if old = s.bagging.state ∧ changed = [] then s else notifyBag changed s

/-- Withdraw the check's prompts (R84, R85). -/
def withdrawBagPrompts (s : State) : State := withdrawPrompt .weightMismatch (withdrawPrompt .placeItem s)

/-- The expectation or deviation ends with its timers, and the check enters a state (R86 to R92). -/
def endBagCheck (state : BagCheckState) (b : Bagging) : Bagging :=
  { b with
    state := state, expectation := none, deviationStart := none, delta := none
    promptRaised := false, causeRaised := false }

/-- Set a line's bag state. -/
def setBag (line : Nat) (bag : BagState) (s : State) : State :=
  setLines (modifyLine s.sale.lines line fun l => { l with bag := bag }) s

/-! ## Expectations (R82, R83, R84) -/

/-- The window of an expectation from a baseline; a learning expectation has none (R82, R83). -/
def windowOf (d : Direction) (b e t : Int) : Option (Int × Int) :=
  if e = 0 then none
  else match d with
    | .add => some (b + e - t, b + e + t)
    | .remove => some (b - e - t, b - e + t)

/-- The state that awaits an expectation. -/
def awaiting : Direction → BagCheckState
  | .add => .awaitAdd
  | .remove => .awaitRemove

/-- Take an expectation: its window from the baseline, its timers started now (R82, R84, R89). -/
def takeExpectation (line : Nat) (d : Direction) (e t : Int) (now : Time) (b : Bagging) : Bagging :=
  { b with
    state := awaiting d
    expectation := some {
      line := line, direction := d, change := e, tolerance := t
      window := b.baseline.bind fun base => windowOf d base e t
      timerStart := some now, latest := none }
    deviationStart := none, delta := none, promptRaised := false, causeRaised := false }

/-- Restart the expectation's timers from now, back in the expectation state (R85, R91). -/
def restartExpectation (now : Time) (e : Expectation) (b : Bagging) : Bagging :=
  { b with
    state := awaiting e.direction
    expectation := some { e with timerStart := some now }
    deviationStart := none, delta := none, promptRaised := false, causeRaised := false }

/-- Whether a stable gross is accepted (R83, first three rows). -/
def accepts (u base g : Int) (e : Expectation) : Bool :=
  if e.change = 0 then
    match e.direction with
    | .add => decide (u ≤ g - base)
    | .remove => decide (u ≤ base - g)
  else
    match e.window with
    | some (lo, hi) => decide (lo ≤ g ∧ g ≤ hi)
    | none => false

/-- Whether a stable gross shows nothing placed or removed yet (R83, rows four and five). -/
def unmoved (u base g : Int) (e : Expectation) : Bool :=
  if e.change = 0 then decide ((g - base).natAbs < u) else decide ((g - base).natAbs ≤ e.tolerance)

/-! ## Stable grosses (R80, R81, R83, R85, R86, R87) -/

/-- The bag state an accepted line takes (R86, R90). -/
def acceptedBag : Direction → BagState
  | .add => .bagged
  | .remove => .notRequired

/-- Accept the expectation at a stable gross (R86), or with the override flag at a clearance (R90).
`learned` is the expected weight a learning ADD takes. -/
def acceptLine (e : Expectation) (base g learned : Int) (overridden : Bool) (s : State) : State :=
  let old := s.bagging.state
  let s := setBagging { endBagCheck .idle s.bagging with baseline := some g } s
  let s := withdrawBagPrompts s
  let learns := e.change == 0 && e.direction == .add
  let bag := acceptedBag e.direction
  let s := setLines (modifyLine s.sale.lines e.line fun l =>
    { l with
      bag := bag
      overridden := l.overridden || overridden
      expected := if learns then some learned else l.expected }) s
  let s := offerNotice .bagging
    (.lineBagged e.line e.direction bag (g - base) overridden (if learns then some learned else none)) s
  bagChanged old [(e.line, bag)] s

/-- The first stable gross while the baseline is unset sets it, and the window with it (R81). -/
def setBaseline (g : Int) (b : Bagging) : Bagging :=
  { b with
    baseline := some g
    expectation := b.expectation.map fun e =>
      { e with window := windowOf e.direction g e.change e.tolerance, latest := some g } }

/-- Enter MISMATCH (R85). -/
def enterMismatch (now : Time) (base g : Int) (e : Expectation) (b : Bagging) : Bagging :=
  { b with
    state := .mismatch, expectation := some { e with timerStart := none, latest := some g }
    deviationStart := some now, delta := some (g - base), promptRaised := false, causeRaised := false }

/-- A stable gross in an expectation state or in MISMATCH (R83, R85). -/
def compareGross (g base : Int) (e : Expectation) (s : State) : State :=
  let b := s.bagging
  let e := { e with latest := some g }
  let u : Int := s.lane.config.unexpected
  if accepts u base g e then acceptLine e base g (g - base) false s
  else if b.state = .mismatch then
    if (g - base).natAbs ≤ e.tolerance then
      bagChanged .mismatch [] (withdrawPrompt .weightMismatch (setBagging (restartExpectation s.now e b) s))
    else setBagging { b with expectation := some e, delta := some (g - base) } s
  else if unmoved u base g e then setBagging { b with expectation := some e } s
  else bagChanged b.state [] (withdrawPrompt .placeItem (setBagging (enterMismatch s.now base g e b) s))

/-- A stable gross in IDLE or UNEXPECTED with a baseline (R87). -/
def watchGross (g base : Int) (s : State) : State :=
  let b := s.bagging
  let near := decide (((g - base).natAbs : Int) ≤ s.lane.config.unexpected)
  match b.state, near with
  | .unexpected, true => bagChanged .unexpected [] (setBagging (endBagCheck .idle b) s)
  | .unexpected, false => setBagging { b with delta := some (g - base) } s
  | _, true => s
  | _, false =>
    bagChanged b.state [] (setBagging { b with
      state := .unexpected, deviationStart := some s.now, delta := some (g - base)
      promptRaised := false, causeRaised := false } s)

/-- A stable gross of W1 reaching the bagging check (R80, R81, R83, R85, R87). -/
def stableGross (g : Int) (s : State) : State :=
  let b := s.bagging
  match b.state, b.baseline, b.expectation with
  | .suspended, _, _ => setBagging { b with baseline := some g } s
  | .off, _, _ => setBagging { b with baseline := some g } s
  | _, none, _ => setBagging (setBaseline g b) s
  | _, some base, some e => compareGross g base e s
  | _, some base, none => watchGross g base s

/-- A reading of W1 reaching the bagging check: only a stable gross acts (R80). -/
def bagReading (s : State) : State :=
  match s.w1.stableGross with
  | some g => stableGross g s
  | none => s

/-! ## Sale boundaries and lines (R81, R82, R89) -/

/-- A sale has opened (R81). -/
def bagOpens (s : State) : State :=
  let old := s.bagging.state
  bagChanged old [] (setBagging { endBagCheck .idle s.bagging with baseline := s.w1.stableGross, skips := 0 } s)

/-- The lines awaiting, with the state they take when the check stops checking (R81, R92). -/
def awaitingLines (ls : List SaleLine) : List (Nat × BagState) :=
  (ls.filter fun l => l.bag == .await).map fun l => (l.number, .notRequired)

/-- Every awaiting line becomes NOT_REQUIRED (R81, R92). -/
def releaseLines (ls : List SaleLine) : List SaleLine :=
  ls.map fun l => if l.bag == .await then { l with bag := .notRequired } else l

/-- The check goes to SUSPENDED at a settlement (R81). -/
def bagSettles (s : State) : State :=
  let old := s.bagging.state
  let changed := awaitingLines s.sale.lines
  let s := setLines (releaseLines s.sale.lines) s
  bagChanged old changed (withdrawBagPrompts (setBagging (endBagCheck .suspended s.bagging) s))

/-- The check goes to SUSPENDED as its sale is discarded (R81, R22). -/
def bagDiscards (s : State) : State :=
  let old := s.bagging.state
  bagChanged old [] (withdrawBagPrompts (setBagging (endBagCheck .suspended s.bagging) s))

/-- Tolerance of an ADD expectation (R82). -/
def toleranceOf (cfg : LaneConfig) (articleTolerance : Nat) (e : Int) : Int :=
  if articleTolerance = 0 then max (cfg.tMin : Int) (ceilDiv (e * cfg.bagPct) 100) else articleTolerance

/-- Record a line's expected weight, tolerance and bag state. -/
def recordExpected (line : Nat) (bag : BagState) (e t : Int) (s : State) : State :=
  setLines (modifyLine s.sale.lines line fun l => { l with bag := bag, expected := some e, tolerance := some t }) s

/-- The sale record unit hands the check a new line (R82). -/
def bagTakesLine (line : Nat) (noBag : Bool) (e : Int) (articleTolerance : Nat) (s : State) : State :=
  if noBag || s.bagging.state == .off then recordExpected line .notRequired 0 0 s
  else
    let t := toleranceOf s.lane.config articleTolerance e
    let old := s.bagging.state
    let s := recordExpected line .await e t s
    bagChanged old [(line, .await)] (setBagging (takeExpectation line .add e t s.now s.bagging) s)

/-- A void reaches the check with its target line (R15, R89). -/
def bagVoids (target : SaleLine) (s : State) : State :=
  let old := s.bagging.state
  match target.bag with
  | .await =>
    let s := setBag target.number .notRequired (withdrawBagPrompts (setBagging (endBagCheck .idle s.bagging) s))
    bagChanged old [(target.number, .notRequired)] s
  | .bagged =>
    if old = .idle then
      let e := target.expected.getD 0
      let t := target.tolerance.getD 0
      let s := setBag target.number .await (setBagging (takeExpectation target.number .remove e t s.now s.bagging) s)
      bagChanged old [(target.number, .await)] s
    else s
  | _ => s

/-! ## Attendant clearances (R90, R91, R92) -/

/-- The band of ITEM_REMOVED around the baseline (R91). -/
def band (cfg : LaneConfig) (b : Bagging) : Int :=
  match b.expectation with
  | some e => e.tolerance
  | none => cfg.unexpected

/-- Whether the check accepts a bagging action (R90, R91, R92). -/
def bagAllows (a : ClearAction) (s : State) : Bool :=
  let b := s.bagging
  match a with
  | .acceptWeight => s.w1.stableGross.isSome
  | .itemRemoved =>
    b.state == .off || b.state == .suspended ||
      (match s.w1.stableGross, b.baseline with
        | some g, some base => decide (((g - base).natAbs : Int) ≤ band s.lane.config b)
        | _, _ => false)
  | _ => true

/-- ACCEPT_WEIGHT (R90).  A baseline still unset is first set by the stable gross, as R81 gives. -/
def acceptWeight (s : State) : State :=
  match s.w1.stableGross with
  | none => s
  | some g =>
    let b := s.bagging
    let base := b.baseline.getD g
    match b.state, b.expectation with
    | .awaitAdd, some e => acceptLine e base g (max 0 (g - base)) true s
    | .awaitRemove, some e => acceptLine e base g (max 0 (g - base)) true s
    | .mismatch, some e => acceptLine e base g (max 0 (g - base)) true s
    | .unexpected, _ => bagChanged .unexpected [] (setBagging { endBagCheck .idle b with baseline := some g } s)
    | _, _ => setBagging { b with baseline := some g } s

/-- ITEM_REMOVED (R91). -/
def itemRemoved (s : State) : State :=
  let b := s.bagging
  match b.state, b.expectation with
  | .mismatch, some e => bagChanged .mismatch [] (withdrawBagPrompts (setBagging (restartExpectation s.now e b) s))
  | .awaitAdd, some e => withdrawPrompt .placeItem (setBagging (restartExpectation s.now e b) s)
  | .awaitRemove, some e => withdrawPrompt .placeItem (setBagging (restartExpectation s.now e b) s)
  | .unexpected, _ => bagChanged .unexpected [] (setBagging (endBagCheck .idle b) s)
  | _, _ => s

/-- BAGGING_OFF (R92). -/
def baggingOff (s : State) : State :=
  let b := s.bagging
  if b.state = .suspended then s
  else
    let changed := awaitingLines s.sale.lines
    let base := match s.w1.stableGross with | some g => some g | none => b.baseline
    let s := setLines (releaseLines s.sale.lines) (setBagging { endBagCheck .off b with baseline := base } s)
    bagChanged b.state changed (withdrawBagPrompts s)

/-- A bagging action takes its effect. -/
def bagAction (a : ClearAction) (s : State) : State :=
  match a with
  | .acceptWeight => acceptWeight s
  | .itemRemoved => itemRemoved s
  | .baggingOff => baggingOff s
  | _ => s

/-! ## Timers (R84, R85, R87) -/

/-- Whether a lane's prompts of the check are promoted to causes (R167). -/
def State.promotes (s : State) : Bool := !s.lane.config.promptsEnabled

/-- Set the mark that the check's prompt has been raised, and the cause mark with a promoted one (R84). -/
def markPrompt (s : State) : State :=
  setBagging { s.bagging with promptRaised := true, causeRaised := s.bagging.causeRaised || s.promotes } s

/-- Set the mark that the check's cause has been raised (R84). -/
def markCause (s : State) : State := setBagging { s.bagging with causeRaised := true } s

/-- Detail of BAG_TIMEOUT: the latest stable gross less B, absent if there has been none (R84). -/
def timeoutDetail (b : Bagging) (e : Expectation) : Option Int :=
  match e.latest, b.baseline with
  | some g, some base => some (g - base)
  | _, _ => none

/-- Whether a promoted prompt raises nothing because the cause mark is set (R84). -/
def State.promptSpent (s : State) : Bool := s.promotes && s.bagging.causeRaised

/-- PLACE_TIMER_EXPIRY (R84). -/
def execPlaceTimerExpiry (s : State) : Outcome :=
  let b := s.bagging
  match b.expectation with
  | some e =>
    if e.timerStart.isSome && !b.promptRaised then
      if s.promptSpent then .next (markPrompt s)
      else .next (publish (raisePrompt ⟨.placeItem, some e.direction⟩ e.line (timeoutDetail b e) (markPrompt s)))
    else .next s
  | none => .next s

/-- BAG_ATTENTION_TIMER_EXPIRY (R84). -/
def execBagAttentionTimerExpiry (s : State) : Outcome :=
  let b := s.bagging
  match b.expectation with
  | some e =>
    if e.timerStart.isSome && !b.causeRaised then
      .next (publish (raiseCause .bagTimeout e.line (timeoutDetail b e) (markCause s)))
    else .next s
  | none => .next s

/-- MISMATCH_PROMPT_TIMER_EXPIRY (R85). -/
def execMismatchPromptTimerExpiry (s : State) : Outcome :=
  let b := s.bagging
  match b.state, b.expectation with
  | .mismatch, some e =>
    if b.promptRaised then .next s
    else if s.promptSpent then .next (markPrompt s)
    else .next (publish (raisePrompt ⟨.weightMismatch, none⟩ e.line b.delta (markPrompt s)))
  | _, _ => .next s

/-- MISMATCH_ATTENTION_TIMER_EXPIRY (R85). -/
def execMismatchAttentionTimerExpiry (s : State) : Outcome :=
  let b := s.bagging
  match b.state, b.expectation with
  | .mismatch, some e =>
    if b.causeRaised then .next s
    else .next (publish (raiseCause .bagMismatch e.line b.delta (markCause s)))
  | _, _ => .next s

/-- UNEXPECTED_TIMER_EXPIRY (R87). -/
def execUnexpectedTimerExpiry (s : State) : Outcome :=
  let b := s.bagging
  match b.state with
  | .unexpected =>
    if b.causeRaised then .next s
    else .next (publish (raiseCause .unexpectedItem 0 b.delta (markCause s)))
  | _ => .next s

/-- SKIP_BAG (R88). -/
def skipBagBody (s : State) : State :=
  let b := s.bagging
  match b.state, b.expectation with
  | .awaitAdd, some e =>
    if s.lane.ready then
      if b.skips = s.lane.config.skipLimit then
        replyRefused .sale .skipBag .state (raiseCause .skipLimit e.line none s)
      else
        let s := setBag e.line .skipped (setBagging { endBagCheck .idle b with skips := b.skips + 1 } s)
        replyDone .sale .skipBag (.skipped e.line (b.skips + 1))
          (bagChanged b.state [(e.line, .skipped)] (withdrawBagPrompts s))
    else replyRefused .sale .skipBag .state s
  | _, _ => replyRefused .sale .skipBag .state s

def execSkipBag (s : State) : Outcome := .next (publish (onRequest .sale .skipBag skipBagBody s))

end Sys2Proof.Machine
end

