-- ==== Sys2Proof/Machine/Drawer.lean ====
section
/-! DEFINITION. The drawer controller (chapter 6): pulses, releases, pending opens, and the till tallies. -/

namespace Sys2Proof.Machine

/-- Replace the drawer controller's state. -/
def setDrawer (d : Drawer) (s : State) : State := { s with drawer := d }

/-- Queue DRAWER_STATE (R130). -/
def notifyDrawer (s : State) : State :=
  let d := s.drawer
  offerNotice .drawer (.drawerState ⟨d.state, d.switchOpen, d.pendingOpen, d.attempt, d.origin, s.saleNumber⟩) s

/-- The pulse condition (R120). -/
def State.pulseCondition (s : State) : Bool :=
  (s.sale.state == .idle || s.sale.state == .settled) && !s.attention.hold

/-- A pulse begins (R120). -/
def beginPulse (attempt : Nat) (origin : OpenOrigin) (s : State) : State :=
  notifyDrawer (setDrawer { s.drawer with
    state := .pulsing, attempt := some attempt, origin := some origin, pendingOpen := false
    pulseDeadline := some (s.deadline s.lane.config.pulseLength), openingDeadline := none } s)

/-- The attempt and origin of a pending open that is due to begin its pulse (R125). -/
def duePulse (s : State) : Option (Nat × OpenOrigin) :=
  let d := s.drawer
  match d.state, d.pendingOpen, d.attempt, d.origin with
  | .closed, true, some n, some o => if s.pulseCondition then some (n, o) else none
  | _, _, _, _ => none

/-- Whether a pending open is due to begin its pulse (R125). -/
def pendingOpenDue (s : State) : Bool := (duePulse s).isSome

/-- A pending open begins its pulse at the event that makes the pulse condition hold (R125, R170). -/
def servePendingOpen (s : State) : State :=
  match duePulse s with
  | some (n, o) => beginPulse n o s
  | none => s

/-- Enter CLOSED, which withdraws CLOSE_DRAWER (R122); `pending` is the release then held, if any.  PROMPT is
offered before DRAWER_STATE (DESIGN CHOICE, log entry 15). -/
def enterClosed (pending : Option (Nat × OpenOrigin)) (s : State) : State :=
  let s := setDrawer { s.drawer with
    state := .closed
    attempt := pending.map (·.1), origin := pending.map (·.2), pendingOpen := pending.isSome
    pulseDeadline := none, openingDeadline := none, openDeadline := none } s
  notifyDrawer (withdrawPrompt .closeDrawer s)

/-- A 16-bit count stops at its largest value (R129). -/
def countUp (n : Nat) : Nat := min 65535 (n + 1)

/-- A 32-bit tally stops at its largest value (R129). -/
def tallyUp (n : Nat) (x : Nat) : Nat := min 4294967295 (n + x)

/-- Enter OPEN, counted, with the open timer started (R122). -/
def enterOpen (s : State) : State :=
  let d := s.drawer
  notifyDrawer (setDrawer { d with
    state := .opened, attempt := none, origin := none, pulseDeadline := none, openingDeadline := none
    openDeadline := some (s.deadline (1000 * s.lane.config.openLimit))
    till := { d.till with opens := countUp d.till.opens } } s)

/-- Enter JAMMED after a failed attempt 2 (R121). -/
def enterJammed (s : State) : State :=
  let d := s.drawer
  let detail := d.origin.map Config.originDetail
  let s := setDrawer { d with
    state := .jammed, attempt := none, origin := none, openingDeadline := none
    till := { d.till with jams := countUp d.till.jams } } s
  notifyDrawer (raiseCause .drawerJammed 0 detail s)

/-- Enter FORCED (R123). -/
def enterForced (s : State) : State :=
  let d := s.drawer
  let s := setDrawer { d with
    state := .forced, attempt := none, origin := none, pendingOpen := false
    till := { d.till with forced := countUp d.till.forced } } s
  notifyDrawer (raiseCause .drawerForced 0 none s)

/-- Begin a pulse where the pulse condition holds, else hold it as a pending open (R120, R125). -/
def pulseOrHold (attempt : Nat) (origin : OpenOrigin) (s : State) : State :=
  if s.pulseCondition then beginPulse attempt origin s
  else notifyDrawer (setDrawer { s.drawer with
    attempt := some attempt, origin := some origin, pendingOpen := true } s)

/-- Take a release asked for by a settlement or DRAWER_NO_SALE (R124). -/
def takeRelease (origin : OpenOrigin) (s : State) : State :=
  let d := s.drawer
  match d.state with
  | .closed =>
    if d.pendingOpen then setDrawer { d with attempt := some 1, origin := some origin } s
    else pulseOrHold 1 origin s
  | _ => s

/-- Whether the drawer policy asks for a release at a settlement (R126). -/
def policyReleases (p : DrawerPolicy) (anyCash : Bool) (change : Int) : Bool :=
  match p with
  | .onAnyCash => anyCash
  | .onChangeDue => decide (0 < change)
  | .manualOnly => false

/-- The drawer controller takes a settlement (R126). -/
def drawerSettles (cash : Nat) (anyCash : Bool) (change : Int) (s : State) : State :=
  let d := s.drawer
  let s := setDrawer { d with till := { d.till with
    cashTaken := tallyUp d.till.cashTaken cash, changeGiven := tallyUp d.till.changeGiven change.toNat } } s
  if policyReleases s.lane.config.drawerPolicy anyCash change then takeRelease .settle s else s

/-- ACKNOWLEDGE of DRAWER_JAMMED (R128): a retry as attempt 2, held as a pending open until the clearance has cleared
the hold (`servePendingOpen`). -/
def jamCleared (s : State) : State := if s.drawer.state = .jammed then enterClosed (some (2, .retry)) s else s

/-- The opening timer has expired: attempt 1 is retried, attempt 2 has jammed (R121). -/
def pulseFailed (s : State) : State :=
  match s.drawer.attempt, s.drawer.origin with
  | some 1, some origin =>
    if s.pulseCondition then beginPulse 2 origin s else enterClosed (some (2, origin)) s
  | _, _ => enterJammed s

/-- The drawer at a reset, from the raw switch input (R118, R131). -/
def drawerReset (switchOpen : Bool) (now : Time) (cfg : LaneConfig) (till : TillTallies) : Drawer where
  state := if switchOpen then .opened else .closed
  switchOpen := switchOpen
  attempt := none
  origin := none
  pendingOpen := false
  pulseDeadline := none
  openingDeadline := none
  openDeadline := if switchOpen then some (now + BitVec.ofNat 32 (1000 * cfg.openLimit)) else none
  till := till

end Sys2Proof.Machine
end

