-- ==== Sys2Proof/Machine/Composer.lean ====
section
/-! DEFINITION. The receipt composer's tables, its job queue, the drawing of rows and moves, and the
elements of each kind of job (7.1 to 7.6). -/

namespace Sys2Proof.Machine

/-! ## Jobs (R132, R133, R134) -/

/-- Replace the composer's state. -/
def setComposer (c : Composer) (s : State) : State := { s with composer := c }

/-- Replace the job list. -/
def setJobs (js : List Job) (s : State) : State := setComposer { s.composer with jobs := js } s

/-- Change the job of a number. -/
def modifyJob (number : Nat) (f : Job → Job) (s : State) : State :=
  setJobs (s.composer.jobs.map fun j => if j.number == number then f j else j) s

/-- The job of a number. -/
def jobAt? (number : Nat) (s : State) : Option Job := s.composer.jobs.find? fun j => j.number == number

/-- Queue JOB_STATE for a job (R134). -/
def notifyJob (j : Job) (noReceipt : Bool) (s : State) : State :=
  offerNotice .composer (.jobState ⟨j.number, j.kind, j.state, j.saleNumber, j.templateMissing, noReceipt⟩) s

/-- Whether the print job queue has room (R132). -/
def State.jobRoom (s : State) : Bool := s.composer.jobs.length < Config.jobCapacity

/-- The next job number after one (R133). -/
def nextJobNumber (n : Nat) : Nat := if n = 65535 then 1 else n + 1

/-- Queue a job at the tail with the next job number (R133). -/
def queueJob (kind : JobKind) (saleNumber : Option Nat) (parts : Option JobParts) (content : JobContent)
    (s : State) : State :=
  let j : Job := ⟨s.composer.nextJob, kind, .queued, saleNumber, parts, content, false, 0⟩
  notifyJob j false (setComposer { s.composer with
    jobs := s.composer.jobs ++ [j], nextJob := nextJobNumber s.composer.nextJob } s)

/-- Give a freed place to the sale's claim in WAITING_ROOM (R133). -/
def freePlace (s : State) : State :=
  match s.sale.receipt, s.sale.claim with
  | .waitingRoom, some parts =>
    if s.jobRoom then
      queueJob .saleReceipt (some s.sale.number) (some parts) .none
        { s with sale := { s.sale with receipt := .queued, claim := none } }
    else s
  | _, _ => s

/-- A job leaves the queue in a final state, with its JOB_STATE, and its place is freed (R133, R134). -/
def retireJob (j : Job) (state : JobState) (noReceipt : Bool) (s : State) : State :=
  let s := setJobs (s.composer.jobs.filter fun k => k.number != j.number) s
  freePlace (notifyJob { j with state := state } noReceipt s)

/-! ## Drawing a row (R140, R142) -/

/-- Glyph width of a font (R142). -/
def glyphWidth : Font → Nat
  | .a => 12
  | .b => 9

/-- Glyph height of a font (R142). -/
def glyphHeight : Font → Nat
  | .a => 24
  | .b => 17

/-- Columns of a row by font and width scale (R139). -/
def columnCount (f : Font) (widthScale : Nat) : Nat :=
  match f with
  | .a => 48 / widthScale
  | .b => 64 / widthScale

/-- The glyph table of a font. -/
def Composer.glyphs (c : Composer) : Font → Vector (Option (List Nat)) 128
  | .a => c.glyphsA
  | .b => c.glyphsB

/-- The glyph position of a byte: its own in 20h to 9Fh, else that of 3Fh (R141). -/
def glyphIndex (b : Byte) : Fin 128 :=
  if 0x20#8 ≤ b ∧ b ≤ 0x9F#8 then Fin.ofNat 128 (b.toNat - 0x20) else 0x1F

/-- One row of dots of a byte's glyph; a glyph never loaded is blank (R142). -/
def glyphRow (table : Vector (Option (List Nat)) 128) (b : Byte) (y : Nat) : Nat :=
  match table[glyphIndex b] with
  | some rows => rows.getD y 0
  | none => 0

/-- Each of the first `n` dots doubled (R142, R145). -/
def doubleDots : Nat → Nat → Nat
  | 0, _ => 0
  | n + 1, d => doubleDots n d ||| (if d.testBit n then 3 <<< (2 * n) else 0)

/-- A row of `n` dots at a width scale. -/
def scaleDots (widthScale n d : Nat) : Nat := if widthScale = 2 then doubleDots n d else d

/-- One dot line of a row of characters, `none` a blank column; each column is `w` dots wide (R142). -/
def textLine (table : Vector (Option (List Nat)) 128) (f : Font) (widthScale y : Nat) : List (Option Byte) → Nat → DotLine
  | [], _ => 0
  | none :: rest, c => textLine table f widthScale y rest (c + 1)
  | some b :: rest, c =>
    (scaleDots widthScale (glyphWidth f) (glyphRow table b y)) <<< (c * glyphWidth f * widthScale)
      ||| textLine table f widthScale y rest (c + 1)

/-- The columns of a row: left and right text laid out in an entry's columns (R140). -/
def layoutRow (e : FormatEntry) (left right : Text) : List (Option Byte) :=
  let right := right.drop (right.length - (e.rightEnd + 1 - e.leftStart))
  let first := e.rightEnd + 1 - right.length
  let last := if right = [] then e.rightEnd else first - 2
  let left := left.take (last + 1 - e.leftStart)
  let lead : List (Option Byte) := List.replicate (e.leftStart - 1) none ++ left.map some
  lead ++ List.replicate (first - 1 - lead.length) none ++ right.map some

/-- A row drawn in its font and scales, followed by its spacing (R140). -/
def drawRow (c : Composer) (e : FormatEntry) (left right : Text) : List DotLine :=
  let cells := layoutRow e left right
  let lines := (List.range (glyphHeight e.font)).flatMap fun y =>
    List.replicate e.heightScale (textLine (c.glyphs e.font) e.font e.widthScale y cells 0)
  lines ++ List.replicate e.spacing 0

/-- The format entry of a row kind. -/
def kindIndex : RowKind → Fin 15
  | .header => 0
  | .saleNo => 1
  | .item => 2
  | .weighed => 3
  | .void => 4
  | .discount => 5
  | .subtotal => 6
  | .cardTender => 7
  | .cashTender => 8
  | .change => 9
  | .slipHeader => 10
  | .slipBody => 11
  | .footer => 12
  | .continued => 13
  | .report => 14

/-- The format entry of a row kind. -/
def Composer.format (c : Composer) (k : RowKind) : FormatEntry := c.formats[kindIndex k]

/-- The left text of a row: its label, a space and its own left text when the label is not empty (R139, R140). -/
def labelled (label own : Text) : Text :=
  if label = [] then own else label ++ [blank] ++ own

/-- A row of a kind, left out where the kind is not printed (R140). -/
def rowOf (c : Composer) (k : RowKind) (left right : Text) : List Element :=
  let e := c.format k
  if e.printed then [.row (drawRow c e (labelled e.label left) right)] else []

/-! ## Moves (R144, R145) -/

/-- A source dot line at a horizontal scale (R145). -/
def scaleLine (scale : Nat) (d : DotLine) : DotLine := if scale = 2 then doubleDots 288 d else d

/-- One move: its lines, or a missing source (R145). -/
def moveElements (c : Composer) (m : BlockMove) : List Element :=
  match (c.segments[m.segment]?).join with
  | none => [.missing]
  | some seg =>
    if seg.lines.length < m.firstLine + m.lineCount then [.missing]
    else
      let run := (seg.lines.drop m.firstLine).take m.lineCount
      let run := match m.order with | .forward => run | .reverse => run.reverse
      (List.replicate m.repeats (run.map fun d => Element.line (scaleLine m.scale d))).flatten

/-- The script of a HEADER, FOOTER or SLIP_HEADER entry, then its row, whose only text is the label (R137, R140, R145);
no space is drawn after it (DESIGN CHOICE, log entry 26). -/
def headingElements (c : Composer) (k : RowKind) : List Element :=
  let e := c.format k
  if e.printed then
    let script := match e.script with
      | some n => (c.scripts.toList.getD n []).flatMap (moveElements c)
      | none => []
    script ++ (if e.label = [] then [] else [.row (drawRow c e e.label [])])
  else []

/-! ## What each job prints (R137, R138, R141) -/

/-- How the composer writes amounts: the decimals and separator read at composition start (R134, R141). -/
structure NumberStyle where
  decimals : Nat
  separator : Byte
  deriving DecidableEq, Repr

/-- An amount as text (R141). -/
def NumberStyle.amount (n : NumberStyle) (x : Int) : Text := amountText n.decimals n.separator x

/-- The two texts of the first row of a card tender (R137). -/
def cardRow1 (n : NumberStyle) (l : SaleLine) : Text × Text :=
  match l.card with
  | some p =>
    (routeText p.route ++ [blank] ++ modeText p.mode ++ (if p.partialFlag then ascii " PARTIAL" else []), n.amount l.amount)
  | none => ([], n.amount l.amount)

/-- The two texts of the second row of a card tender (R137). -/
def cardRow2 (l : SaleLine) : Text × Text :=
  match l.card with
  | some p => (p.masked, p.approval)
  | none => ([], [])

/-- The rows of an ITEM, WEIGHED, VOID or DISCOUNT line (R137). -/
def itemRows (c : Composer) (n : NumberStyle) (l : SaleLine) : List Element :=
  match l.kind with
  | .item =>
    let q := l.quantity.getD 1
    rowOf c .item (if 1 < q then decimal q ++ ascii " x " ++ l.description else l.description) (n.amount l.amount)
  | .weighed =>
    rowOf c .weighed l.description [] ++
    rowOf c .weighed
      (weightText n.separator (l.weight.getD 0) ++ ascii " kg @ " ++ n.amount (l.unitPrice.getD 0) ++ ascii "/kg")
      (n.amount l.amount)
  | .void => rowOf c .void l.description (n.amount l.amount)
  | .discount =>
    rowOf c .discount
      (l.description ++ (match l.target with | some t => ascii " #" ++ decimal t | none => [])) (n.amount l.amount)
  | _ => []

/-- The rows of a tender line (R137). -/
def tenderRows (c : Composer) (n : NumberStyle) (l : SaleLine) : List Element :=
  match l.kind with
  | .cardTender =>
    rowOf c .cardTender (cardRow1 n l).1 (cardRow1 n l).2 ++ rowOf c .cardTender (cardRow2 l).1 (cardRow2 l).2
  | .cashTender => rowOf c .cashTender l.description (n.amount l.amount)
  | _ => []

/-- The feed-to-cut lines and the cut mark that end a part (R137, R138). -/
def partEnd (feed : Nat) (last : Bool) : List Element := List.replicate feed (.line 0) ++ [.cut last]

/-- The customer copy of a sale (R137). -/
def customerCopy (c : Composer) (n : NumberStyle) (r : SaleRecord) (copy last : Bool) : List Element :=
  headingElements c .header ++
  rowOf c .saleNo (decimal r.number) (if copy then ascii "COPY" else []) ++
  r.lines.flatMap (itemRows c n) ++
  rowOf c .subtotal [] (n.amount (itemTotal r.lines)) ++
  r.lines.flatMap (tenderRows c n) ++
  (if r.change = 0 then [] else rowOf c .change [] (n.amount r.change)) ++
  headingElements c .footer ++
  partEnd c.feedToCut last

/-- The merchant slip of a tender line (R138). -/
def merchantSlip (c : Composer) (n : NumberStyle) (r : SaleRecord) (line : Nat) (last : Bool) : List Element :=
  match lineAt? r.lines line with
  | none => partEnd c.feedToCut last
  | some l =>
    headingElements c .slipHeader ++
    rowOf c .slipBody (ascii "SALE " ++ decimal r.number ++ ascii " LINE " ++ decimal line) [] ++
    rowOf c .slipBody (cardRow1 n l).1 (cardRow1 n l).2 ++
    rowOf c .slipBody (cardRow2 l).1 (cardRow2 l).2 ++
    partEnd c.feedToCut last

/-- The slips of a sale receipt, the last of them ended by the job's last cut mark (R138). -/
def slips (c : Composer) (n : NumberStyle) (r : SaleRecord) : List Nat → List Element
  | [] => []
  | [l] => merchantSlip c n r l true
  | l :: rest => merchantSlip c n r l false ++ slips c n r rest

/-- The elements of a sale receipt of given parts (R137, R138). -/
def saleReceipt (c : Composer) (n : NumberStyle) (r : SaleRecord) (p : JobParts) : List Element :=
  (if p.customer then customerCopy c n r false p.slips.isEmpty else []) ++ slips c n r p.slips

/-- The elements of a till report (R138). -/
def tillReport (c : Composer) (n : NumberStyle) (t : TillTallies) : List Element :=
  headingElements c .header ++
  rowOf c .report (ascii "CASH TAKEN") (n.amount t.cashTaken) ++
  rowOf c .report (ascii "CHANGE GIVEN") (n.amount t.changeGiven) ++
  rowOf c .report (ascii "NO SALE") (decimal t.noSales) ++
  rowOf c .report (ascii "OPENS") (decimal t.opens) ++
  rowOf c .report (ascii "FORCED") (decimal t.forced) ++
  rowOf c .report (ascii "JAMS") (decimal t.jams) ++
  partEnd c.feedToCut true

/-- The move of a SEGMENT job: the whole segment, once, forward (R138). -/
def segmentMove (c : Composer) (k : Nat) : BlockMove :=
  ⟨k, 0, match (c.segments[k]?).join with | some seg => seg.lines.length | none => 1, 1, .forward, 1⟩

/-- The elements of a job (R137, R138). -/
def jobElements (c : Composer) (n : NumberStyle) (current : SaleRecord) (last : Option SaleRecord) (j : Job) : List Element :=
  match j.kind, j.content with
  | .saleReceipt, _ => saleReceipt c n current (j.parts.getD ⟨true, []⟩)
  | .reprint, _ =>
    match last with
    | some r => customerCopy c n r true true
    | none => partEnd c.feedToCut true
  | _, .tallies t => tillReport c n t
  | _, .text ls => ls.flatMap (fun t => rowOf c .report t []) ++ partEnd c.feedToCut true
  | _, .segment k => moveElements c (segmentMove c k) ++ partEnd c.feedToCut true
  | _, .none => partEnd c.feedToCut true

/-! ## Job requests (R135) -/

/-- The reply of an accepted job request, which queues its job (R133, R135). -/
def acceptJob (req : Req) (kind : JobKind) (content : JobContent) (s : State) : State :=
  replyDone .print req (.job s.composer.nextJob) (queueJob kind none none content s)

/-- REPRINT (R135). -/
def reprintBody (s : State) : State :=
  if s.lastSale.isNone then replyRefused .print .reprint .notFound s
  else if !s.jobRoom then replyRefused .print .reprint .full s
  else acceptJob .reprint .reprint .none s

def execReprint (s : State) : Outcome := .next (onRequest .print .reprint reprintBody s)

/-- TEXT_JOB (R135). -/
def textJobBody (lines : List Text) (s : State) : State :=
  if lines = [] || decide (40 < lines.length) || lines.any (fun l => decide (64 < l.length)) then
    replyRefused .print .textJob .range s
  else if !s.jobRoom then replyRefused .print .textJob .full s
  else acceptJob .textJob .text (.text lines) s

def execTextJob (lines : List Text) (s : State) : Outcome := .next (onRequest .print .textJob (textJobBody lines) s)

/-- SEGMENT_JOB (R135). -/
def segmentJobBody (segment : Nat) (s : State) : State :=
  if 15 < segment then replyRefused .print .segmentJob .range s
  else if !s.jobRoom then replyRefused .print .segmentJob .full s
  else acceptJob .segmentJob .segment (.segment segment) s

def execSegmentJob (segment : Nat) (s : State) : Outcome :=
  .next (onRequest .print .segmentJob (segmentJobBody segment) s)

/-- Free lines of template memory (R143). -/
def Composer.freeTemplate (c : Composer) : Nat := Config.templateCapacity - c.freeMark

/-- JOB_LIST (R135). -/
def jobListBody (s : State) : State :=
  let c := s.composer
  replyDone .print .jobList (.jobs c.composing c.nextJob c.freeTemplate
    (c.jobs.map fun j => ⟨j.number, j.kind, j.state, j.saleNumber, j.templateMissing⟩)) s

def execJobList (s : State) : Outcome := .next (onRequest .print .jobList jobListBody s)

/-! ## Table requests (R139, R142, R143, R144, R148) -/

/-- A table write is refused with BUSY while the composer is COMPOSING (R148). -/
def tableWrite (req : Req) (body : State → State) (s : State) : State :=
  if s.composer.composing then replyRefused .print req .busy s else body s

/-- Whether a byte names a glyph (R142). -/
def isGlyph (b : Byte) : Bool := 0x20#8 ≤ b && b ≤ 0x9F#8

/-- A glyph's dots as stored: the font's height in rows, each of the font's width (R142). -/
def storedGlyph (f : Font) (rows : List Nat) : List Nat :=
  (rows.map fun r => r % 2 ^ glyphWidth f).take (glyphHeight f)

/-- Replace a glyph (R142). -/
def setGlyph (f : Font) (i : Fin 128) (rows : List Nat) (c : Composer) : Composer :=
  match f with
  | .a => { c with glyphsA := c.glyphsA.set i (some rows) }
  | .b => { c with glyphsB := c.glyphsB.set i (some rows) }

/-- GLYPH_WRITE (R142).  Rows the frame does not fill are refused as a payload of the wrong length (R185). -/
def glyphWriteBody (font : Option Font) (position : Byte) (rows : List Nat) (s : State) : State :=
  match font with
  | none => replyRefused .print .glyphWrite .range s
  | some f =>
    if !isGlyph position || rows.length != glyphHeight f then replyRefused .print .glyphWrite .range s
    else
      replyDone .print .glyphWrite .none
        (setComposer (setGlyph f (glyphIndex position) (storedGlyph f rows) s.composer) s)

def execGlyphWrite (font : Option Font) (position : Byte) (rows : List Nat) (s : State) : Outcome :=
  .next (onRequest .print .glyphWrite (tableWrite .glyphWrite (glyphWriteBody font position rows)) s)

/-- GLYPH_READ (R142). -/
def glyphReadBody (font : Option Font) (position : Byte) (s : State) : State :=
  match font with
  | none => replyRefused .print .glyphRead .range s
  | some f =>
    if !isGlyph position then replyRefused .print .glyphRead .range s
    else
      match (s.composer.glyphs f)[glyphIndex position] with
      | some rows => replyDone .print .glyphRead (.glyph rows true) s
      | none => replyDone .print .glyphRead (.glyph (List.replicate (glyphHeight f) 0) false) s

def execGlyphRead (font : Option Font) (position : Byte) (s : State) : Outcome :=
  .next (onRequest .print .glyphRead (glyphReadBody font position) s)

/-- The kinds that may name a script (R139). -/
def hasScript : RowKind → Bool
  | .header | .footer | .slipHeader => true
  | _ => false

/-- The entry a FORMAT_WRITE stores, or `none` where it is refused with RANGE (R139). -/
def formatEntryOf (k : RowKind) (w : FormatWrite) : Option FormatEntry :=
  match w.font with
  | none => none
  | some f =>
    let scalesOk := (w.widthScale == 1 || w.widthScale == 2) && (w.heightScale == 1 || w.heightScale == 2)
    let scriptOk := match w.script with | none => true | some n => decide (n ≤ 3) && hasScript k
    if scalesOk && scriptOk then
      let columns := columnCount f w.widthScale
      let left := clampNat 1 columns w.leftStart
      some {
        printed := w.printed, font := f, widthScale := w.widthScale, heightScale := w.heightScale
        leftStart := left, rightEnd := clampNat left columns w.rightEnd
        spacing := clampNat 0 24 w.spacing, label := w.label.take 32, script := w.script }
    else none

/-- FORMAT_WRITE (R139). -/
def formatWriteBody (kind : Option RowKind) (w : FormatWrite) (s : State) : State :=
  match kind with
  | none => replyRefused .print .formatWrite .range s
  | some k =>
    match formatEntryOf k w with
    | none => replyRefused .print .formatWrite .range s
    | some e =>
      replyDone .print .formatWrite (.format e)
        (setComposer { s.composer with formats := s.composer.formats.set (kindIndex k) e } s)

def execFormatWrite (kind : Option RowKind) (w : FormatWrite) (s : State) : Outcome :=
  .next (onRequest .print .formatWrite (tableWrite .formatWrite (formatWriteBody kind w)) s)

/-- FORMAT_READ (R139). -/
def formatReadBody (kind : Option RowKind) (s : State) : State :=
  match kind with
  | none => replyRefused .print .formatRead .range s
  | some k => replyDone .print .formatRead (.formatRead (s.composer.format k) s.composer.feedToCut) s

def execFormatRead (kind : Option RowKind) (s : State) : Outcome :=
  .next (onRequest .print .formatRead (formatReadBody kind) s)

/-- CUT_FEED_WRITE (R139). -/
def cutFeedWriteBody (length : Nat) (s : State) : State :=
  let n := clampNat 0 240 length
  replyDone .print .cutFeedWrite (.feedToCut n) (setComposer { s.composer with feedToCut := n } s)

def execCutFeedWrite (length : Nat) (s : State) : Outcome :=
  .next (onRequest .print .cutFeedWrite (tableWrite .cutFeedWrite (cutFeedWriteBody length)) s)

/-- A dot line of 576 dots (R151). -/
def dotLine576 (d : Nat) : DotLine := d % (2 ^ 192 * 2 ^ 192 * 2 ^ 192)

/-- The lines of a segment written from its line 0: those carried, the rest blank (R143). -/
def segmentLines (count : Nat) (lines : List DotLine) : List DotLine :=
  lines.map dotLine576 ++ List.replicate (count - lines.length) 0

/-- The reply of an accepted TEMPLATE_WRITE, which defines the segment (R143). -/
def defineSegment (i : Fin 16) (start count freeMark : Nat) (lines : List DotLine) (s : State) : State :=
  let c := { s.composer with
    segments := s.composer.segments.set i (some ⟨start, segmentLines count lines⟩), freeMark := freeMark }
  replyDone .print .templateWrite (.segment start count c.freeTemplate) (setComposer c s)

/-- TEMPLATE_WRITE (R143).  A frame carries at most 14 lines. -/
def templateWriteBody (segment count : Nat) (lines : List DotLine) (s : State) : State :=
  if h : segment < 16 then
    if count < 1 || 640 < count || count < lines.length || 14 < lines.length then
      replyRefused .print .templateWrite .range s
    else
      let c := s.composer
      let anew := if c.freeTemplate < count then replyRefused .print .templateWrite .full s
        else defineSegment ⟨segment, h⟩ c.freeMark count (c.freeMark + count) lines s
      match c.segments[segment] with
      | some seg => if seg.lines.length = count then defineSegment ⟨segment, h⟩ seg.start count c.freeMark lines s else anew
      | none => anew
  else replyRefused .print .templateWrite .range s

def execTemplateWrite (segment count : Nat) (lines : List DotLine) (s : State) : Outcome :=
  .next (onRequest .print .templateWrite (tableWrite .templateWrite (templateWriteBody segment count lines)) s)

/-- Lines overwritten from a first line on (R143). -/
def overwrite (old : List DotLine) (first : Nat) (lines : List DotLine) : List DotLine :=
  old.take first ++ lines.map dotLine576 ++ old.drop (first + lines.length)

/-- TEMPLATE_LINES (R143).  A frame carries 1 to 14 lines. -/
def templateLinesBody (segment first : Nat) (lines : List DotLine) (s : State) : State :=
  if h : segment < 16 then
    if lines = [] || 14 < lines.length then replyRefused .print .templateLines .range s
    else
      match s.composer.segments[segment] with
      | none => replyRefused .print .templateLines .notFound s
      | some seg =>
        if seg.lines.length < first + lines.length then replyRefused .print .templateLines .range s
        else
          replyDone .print .templateLines .none (setComposer { s.composer with
            segments := s.composer.segments.set segment (some ⟨seg.start, overwrite seg.lines first lines⟩) } s)
  else replyRefused .print .templateLines .range s

def execTemplateLines (segment first : Nat) (lines : List DotLine) (s : State) : Outcome :=
  .next (onRequest .print .templateLines (tableWrite .templateLines (templateLinesBody segment first lines)) s)

/-- TEMPLATE_CLEAR (R143). -/
def templateClearBody (s : State) : State :=
  replyDone .print .templateClear (.freeLines Config.templateCapacity)
    (setComposer { s.composer with segments := Vector.replicate 16 none, freeMark := 0 } s)

def execTemplateClear (s : State) : Outcome :=
  .next (onRequest .print .templateClear (tableWrite .templateClear templateClearBody) s)

/-- A move as stored, or `none` where its script is refused with RANGE (R144). -/
def moveOf (m : MoveWrite) : Option BlockMove :=
  match m.order with
  | none => none
  | some o =>
    if m.segment ≤ 15 ∧ (m.scale = 1 ∨ m.scale = 2) then
      some ⟨m.segment, clampNat 0 639 m.firstLine, clampNat 1 640 m.lineCount, clampNat 1 8 m.repeats, o, m.scale⟩
    else none

/-- SCRIPT_WRITE (R144). -/
def scriptWriteBody (script : Nat) (moves : List MoveWrite) (s : State) : State :=
  if h : script < 4 then
    match moves.mapM moveOf with
    | some ms =>
      if 8 < moves.length then replyRefused .print .scriptWrite .range s
      else
        replyDone .print .scriptWrite (.script ms)
          (setComposer { s.composer with scripts := s.composer.scripts.set script ms } s)
    | none => replyRefused .print .scriptWrite .range s
  else replyRefused .print .scriptWrite .range s

def execScriptWrite (script : Nat) (moves : List MoveWrite) (s : State) : Outcome :=
  .next (onRequest .print .scriptWrite (tableWrite .scriptWrite (scriptWriteBody script moves)) s)

/-- SCRIPT_READ (R144). -/
def scriptReadBody (script : Nat) (s : State) : State :=
  if h : script < 4 then replyDone .print .scriptRead (.script s.composer.scripts[script]) s
  else replyRefused .print .scriptRead .range s

def execScriptRead (script : Nat) (s : State) : Outcome :=
  .next (onRequest .print .scriptRead (scriptReadBody script) s)

end Sys2Proof.Machine
end

