-- ==== Sys2Proof/Machine/ArticleCache.lean ====
section
/-! DEFINITION. The article cache (2.5, 2.6): its work in the order it arrives, placement, reports, and the
meanings of the requests that reach it. -/

namespace Sys2Proof.Machine

/-! ## Entries and reports (R44, R50, R51) -/

/-- Replace the sets of the cache. -/
def setSets (sets : Vector CacheSet 256) (s : State) : State := { s with cache := { s.cache with sets := sets } }

/-- Change a way of a set. -/
def modifyWay (i : Fin 256) (w : Way) (f : Option CacheEntry → Option CacheEntry) (s : State) : State :=
  setSets (modifySet s.cache.sets i fun c => c.setWay w (f (c.way w))) s

/-- The tallies zeroed and the dirty mark cleared, as a report is queued (R50). -/
def cleanEntry (e : CacheEntry) : CacheEntry := { e with count := 0, value := 0, dirty := false }

/-- The valid entry of a way. -/
def State.entryAt (s : State) (i : Fin 256) (w : Way) : Option CacheEntry := s.cache.sets[i].way w

/-- Every way in set and then way order. -/
def allWays : List (Fin 256 × Way) := (List.finRange 256).flatMap fun i => [(i, .zero), (i, .one)]

/-- The ways in set and way order whose valid entry meets a test. -/
def waysWhere (sets : Vector CacheSet 256) (test : CacheEntry → Bool) : List (Fin 256 × Way) :=
  allWays.filter fun p => match sets[p.1].way p.2 with | some e => test e | none => false

/-- Report each way's tallies and then invalidate it (R32, R49). -/
def invalidateAll (reason : TallyReason) (ways : List (Fin 256 × Way)) : List CacheWork :=
  ways.flatMap fun p => [.report p.1 p.2 reason, .invalidate p.1 p.2]

/-- Ways among a list whose entry is dirty. -/
def dirtyCount (sets : Vector CacheSet 256) (ways : List (Fin 256 × Way)) : Nat :=
  (ways.filter fun p => match sets[p.1].way p.2 with | some e => e.dirty | none => false).length

/-- The ways a flush invalidates (R49). -/
def flushWays (sets : Vector CacheSet 256) : FlushMode → List (Fin 256 × Way)
  | .one code =>
    match normalize? code with
    | some c => waysWhere sets fun e => e.code == c
    | none => []
  | .unpinned => waysWhere sets fun e => !e.pinned
  | .all => waysWhere sets fun _ => true

/-- Where a cacheable record goes in its set (R44): a way and the code it replaces, or nowhere. -/
def placement (sets : Vector CacheSet 256) (code : Code) : Option (Way × Option Code) :=
  let c := sets[setOf code]
  let free (w : Way) : Bool := match c.way w with | some e => !e.pinned | none => true
  match cacheWay sets code with
  | some w => some (w, none)
  | none =>
    if c.way0.isNone then some (.zero, none)
    else if c.way1.isNone then some (.one, none)
    else if free c.lru then some (c.lru, (c.way c.lru).map CacheEntry.code)
    else if free c.lru.other then some (c.lru.other, (c.way c.lru.other).map CacheEntry.code)
    else none

/-- A way after a record has been written into it: in place for the same code, else unpinned and clean
(R44). -/
def writtenEntry (code : Code) (a : Article) (old : Option CacheEntry) : CacheEntry :=
  match old with
  | some e => if e.code = code then { e with article := a } else ⟨false, code, a, 0, 0, false⟩
  | none => ⟨false, code, a, 0, 0, false⟩

/-- Whether an added tally would leave ±2,000,000,000 (R51). -/
def leavesRange (x : Int) : Bool := decide (x < -Config.maxTally ∨ Config.maxTally < x)

/-- What is left of a fill once it has been taken up (R43, R44, R45).  An UNKNOWN fill acts on the scan
queue at once, before the invalidation. -/
def fillWork (code : Code) (content : Option Article) (s : State) : State × List CacheWork :=
  match content with
  | none =>
    let (s', n) := fillScans code none s
    match cacheWay s'.cache.sets code with
    | some w =>
      (s', [.report (setOf code) w .invalidate, .invalidate (setOf code) w,
        .answer .articleFill (.fill .invalidated n)])
    | none => (s', [.answer .articleFill (.fill .none n)])
  | some a =>
    let noCache := s.scan.lookups.any fun l => l.code == code && l.noCache
    let s := dropDeadline code s
    if markedDirect s.scan.rules code || noCache then (s, [.resolve code content (.notCached .direct)])
    else
      match placement s.cache.sets code with
      | none => (s, [.resolve code content (.notCached .pinned)])
      | some (w, replaced) =>
        let evict : List CacheWork := if replaced.isSome then [.report (setOf code) w .evict] else []
        (s, evict ++ [.place (setOf code) w code a, .resolve code content (.cached (setOf code) w replaced)])

/-- What is left of a credit once it has been taken up (R51). -/
def creditWork (code : Code) (count value : Int) (s : State) : List CacheWork :=
  match cacheWay s.cache.sets code, cacheEntry s.cache.sets code with
  | some w, some e =>
    if leavesRange (e.count + count) || leavesRange (e.value + value) then
      [.report (setOf code) w .overflow, .add (setOf code) w count value]
    else [.add (setOf code) w count value]
  | _, _ => [.writeThrough code count value]

/-- The rest of the cache's work. -/
def setWork (w : List CacheWork) (s : State) : State := { s with cache := { s.cache with work := w } }

/-- The TALLY_REPORT a piece of work sends now, or `none` for work that sends none (R50). -/
def workReport (s : State) : CacheWork → Option Notice
  | .report i w reason =>
    match s.entryAt i w with
    | some e => if e.dirty then some (.tallyReport e.code e.count e.value reason) else none
    | none => none
  | .writeThrough code count value => some (.tallyReport code count value .settle)
  | _ => none

/-- The effect of a piece of work on the cache and the scan queue, its report apart, and the work it leaves
in its place. -/
def doWork (s : State) : CacheWork → State × List CacheWork
  | .fill code content => fillWork code content s
  | .flush mode =>
    let ways := flushWays s.cache.sets mode
    (s, invalidateAll .flush ways ++ [.answer .articleFlush (.flushed ways.length (dirtyCount s.cache.sets ways))])
  | .sweep rule =>
    let ways := waysWhere s.cache.sets fun e => markedDirect s.scan.rules e.code
    (s, invalidateAll .rule ways ++ [.answer .rangeRuleWrite (.ruleStored rule ways.length)])
  | .push =>
    let ways := waysWhere s.cache.sets fun e => e.dirty
    (s, (ways.map fun p => CacheWork.report p.1 p.2 .push) ++ [.answer .tallyPush (.pushed ways.length)])
  | .credit code count value => (s, creditWork code count value s)
  | .report i w _ => (modifyWay i w (Option.map cleanEntry) s, [])
  | .writeThrough _ _ _ => (s, [])
  | .invalidate i w => (modifyWay i w (fun _ => none) s, [])
  | .place i w code a => (touchWay i w (modifyWay i w (fun old => some (writtenEntry code a old)) s), [])
  | .add i w count value =>
    (modifyWay i w (Option.map fun e => { e with count := e.count + count, value := e.value + value, dirty := true }) s, [])
  | .resolve code content outcome =>
    let (s, n) := fillScans code content s
    (s, [.answer .articleFill (.fill outcome n)])
  | .answer req data => (replyDone .management req data s, [])

/-- The cache takes its work in order, up to a report that finds no place (R50). -/
def cacheRun : Nat → State → State
  | 0, s => s
  | k + 1, s =>
    if s.cache.waiting then s
    else
      match s.cache.work with
      | [] => s
      | w :: rest =>
        match workReport s w with
        | some n =>
          if s.noticeRoom then
            let (s', more) := doWork (pushFrame (.notice n) s) w
            cacheRun k (setWork (more ++ rest) s')
          else
            { s with
              cache := { s.cache with waiting := true }
              link := { s.link with waiters := s.link.waiters ++ [.cacheReport] } }
        | none =>
          let (s', more) := doWork s w
          cacheRun k (setWork (more ++ rest) s')

/-- Steps that suffice for the work waiting: an operation expands to at most 1,026 pieces. -/
def workFuel (s : State) : Nat := s.cache.work.length * 1100

/-- The cache goes on with its work (R50). -/
def cacheGoOn (s : State) : State := cacheRun (workFuel s) s

/-- Hand the cache work behind what it has (R50). -/
def cacheTakes (w : List CacheWork) (s : State) : State := cacheGoOn (setWork (s.cache.work ++ w) s)

/-- The waiting report is queued, and its piece of work done (R50). -/
def sendReport (s : State) : State :=
  match s.cache.work with
  | [] => s
  | w :: rest =>
    match workReport s w with
    | some n =>
      let (s', more) := doWork (pushFrame (.notice n) s) w
      setWork (more ++ rest) s'
    | none => s

/-- CACHE_WORK_RESUMES (R50): the report the cache waits with takes the place that has come to it, and the
work goes on. -/
def execCacheWorkResumes (s : State) : Outcome :=
  if s.cache.waiting && s.waiterTurn .cacheReport then
    let s := { s with
      cache := { s.cache with waiting := false }
      link := { s.link with waiters := s.link.waiters.drop 1 } }
    .next (publish (cacheGoOn (refillQueue (sendReport s))))
  else .next s

/-! ## Requests (R43, R46, R47, R48, R49, R52) -/

/-- Whether a unit price is in the range of an article kind (R41). -/
def priceInRange (kind : ArticleKind) (p : Nat) : Bool :=
  match kind with
  | .counted => 1 ≤ p && p ≤ 9999999
  | .weighed => 1 ≤ p && p ≤ 999999

/-- The article a fill stores, or `none` where it is refused with RANGE (R43). -/
def articleOf (w : ArticleWrite) : Option Article :=
  match w.kind with
  | none => none
  | some k =>
    if priceInRange k w.unitPrice && w.tare ≤ 9999 && w.expectedWeight ≤ 30000 && w.tolerance ≤ 2000 then
      some ⟨k, w.unitPrice, w.tare, w.expectedWeight, w.tolerance, w.description.take 24, w.ageRestricted, w.noBag⟩
    else none

/-- ARTICLE_FILL (R43). -/
def articleFillBody (code : Text) (content : Option ArticleWrite) (s : State) : State :=
  match normalize? code, content with
  | some c, none => cacheTakes [.fill c none] s
  | some c, some w =>
    match articleOf w with
    | some a => cacheTakes [.fill c (some a)] s
    | none => replyRefused .management .articleFill .range s
  | none, _ => replyRefused .management .articleFill .range s

def execArticleFill (code : Text) (content : Option ArticleWrite) (s : State) : Outcome :=
  .next (publish (onRequest .management .articleFill (articleFillBody code content) s))

/-- Whether the present fields of an update are in range, the price for a kind (R46). -/
def changeInRange (kind : ArticleKind) (w : ArticleChange) : Bool :=
  (match w.unitPrice with | some p => priceInRange kind p | none => true)
    && (match w.description with | some t => decide (t.length ≤ 24) | none => true)
    && decide (w.tare.getD 0 ≤ 9999) && decide (w.expectedWeight.getD 0 ≤ 30000) && decide (w.tolerance.getD 0 ≤ 2000)

/-- An article with the present fields of an update overwritten (R46). -/
def changedArticle (w : ArticleChange) (a : Article) : Article :=
  { a with
    unitPrice := w.unitPrice.getD a.unitPrice
    description := w.description.getD a.description
    tare := w.tare.getD a.tare
    expectedWeight := w.expectedWeight.getD a.expectedWeight
    tolerance := w.tolerance.getD a.tolerance }

/-- ARTICLE_UPDATE (R46).  Like ARTICLE_PIN, ARTICLE_UNPIN and ARTICLE_PROBE it is answered at once while the
cache waits with a report (DESIGN CHOICE, log entry 23). -/
def articleUpdateBody (code : Text) (w : ArticleChange) (s : State) : State :=
  match normalize? code with
  | none => replyRefused .management .articleUpdate .range s
  | some c =>
    match cacheWay s.cache.sets c, cacheEntry s.cache.sets c with
    | some way, some e =>
      if changeInRange e.article.kind w then
        replyDone .management .articleUpdate (.updated true)
          (modifyWay (setOf c) way (Option.map fun e => { e with article := changedArticle w e.article }) s)
      else replyRefused .management .articleUpdate .range s
    | _, _ =>
      if changeInRange .counted w then replyDone .management .articleUpdate (.updated false) s
      else replyRefused .management .articleUpdate .range s

def execArticleUpdate (code : Text) (w : ArticleChange) (s : State) : Outcome :=
  .next (onRequest .management .articleUpdate (articleUpdateBody code w) s)

/-- Set or clear the pinned mark of a code's entry (R47), also while the cache waits with a report (DESIGN
CHOICE, log entry 23). -/
def pinBody (req : Req) (pinned : Bool) (code : Text) (s : State) : State :=
  match normalize? code with
  | none => replyRefused .management req .notFound s
  | some c =>
    match cacheWay s.cache.sets c with
    | some w =>
      replyDone .management req .none (modifyWay (setOf c) w (Option.map fun e => { e with pinned := pinned }) s)
    | none => replyRefused .management req .notFound s

/-- ARTICLE_PIN (R47). -/
def execArticlePin (code : Text) (s : State) : Outcome :=
  .next (onRequest .management .articlePin (pinBody .articlePin true code) s)

/-- ARTICLE_UNPIN (R47). -/
def execArticleUnpin (code : Text) (s : State) : Outcome :=
  .next (onRequest .management .articleUnpin (pinBody .articleUnpin false code) s)

/-- What ARTICLE_PROBE reports of a code (R48). -/
def probeReport (code : Text) (s : State) : ProbeReport :=
  let r := applyRules s.scan.rules code
  { rule := r.rule
    lookup := r.lookup
    listed := s.scan.lookups.any fun l => l.code == r.lookup
    cached :=
      match cacheWay s.cache.sets r.lookup, cacheEntry s.cache.sets r.lookup with
      | some w, some e => some (setOf r.lookup, w, e)
      | _, _ => none }

/-- ARTICLE_PROBE (R48), answered at once also while the cache waits with a report (DESIGN CHOICE, log entry
23). -/
def articleProbeBody (code : Text) (s : State) : State :=
  if isCode code then replyDone .management .articleProbe (.probe (probeReport code s)) s
  else replyRefused .management .articleProbe .range s

def execArticleProbe (code : Text) (s : State) : Outcome :=
  .next (onRequest .management .articleProbe (articleProbeBody code) s)

/-- ARTICLE_FLUSH (R49). -/
def articleFlushBody (mode : FlushMode) (s : State) : State :=
  match mode with
  | .one code =>
    match normalize? code with
    | none => replyRefused .management .articleFlush .notFound s
    | some c =>
      match cacheWay s.cache.sets c with
      | some _ => cacheTakes [.flush mode] s
      | none => replyRefused .management .articleFlush .notFound s
  | _ => cacheTakes [.flush mode] s

def execArticleFlush (mode : FlushMode) (s : State) : Outcome :=
  .next (publish (onRequest .management .articleFlush (articleFlushBody mode) s))

/-- TALLY_PUSH (R52). -/
def tallyPushBody (s : State) : State := cacheTakes [.push] s

def execTallyPush (s : State) : Outcome := .next (publish (onRequest .management .tallyPush tallyPushBody s))

/-! ## Range rules (R29, R32) -/

/-- The rule a RANGE_RULE_WRITE stores, or `none` where it is refused with RANGE (R32). -/
def ruleOf (w : RuleWrite) : Option RangeRule :=
  match w.length, w.action with
  | some l, some a =>
    if w.pre.isEmpty || decide (6 < w.pre.length) || !w.pre.all isDigit then none
    else if a = .embedPrice ∨ a = .embedWeight then
      match ruleLength l with
      | none => none
      | some n =>
        if (w.fieldDigits = 4 ∨ w.fieldDigits = 5) ∧ w.pre.length < w.fieldStart ∧ w.fieldStart + w.fieldDigits - 1 ≤ n - 1
        then some ⟨w.enabled, w.pre, l, a, some ⟨w.fieldStart, w.fieldDigits⟩⟩ else none
    else some ⟨w.enabled, w.pre, l, a, none⟩
  | _, _ => none

/-- RANGE_RULE_WRITE (R32). -/
def rangeRuleWriteBody (number : Nat) (w : RuleWrite) (s : State) : State :=
  if s.sale.state ≠ .idle then replyRefused .management .rangeRuleWrite .state s
  else if h : number < 4 then
    match ruleOf w with
    | none => replyRefused .management .rangeRuleWrite .range s
    | some r => cacheTakes [.sweep r] { s with scan := { s.scan with rules := s.scan.rules.set number r } }
  else replyRefused .management .rangeRuleWrite .range s

def execRangeRuleWrite (number : Nat) (w : RuleWrite) (s : State) : Outcome :=
  .next (publish (onRequest .management .rangeRuleWrite (rangeRuleWriteBody number w) s))

/-- RANGE_RULE_READ (R29). -/
def rangeRuleReadBody (s : State) : State := replyDone .management .rangeRuleRead (.rules s.scan.rules) s

def execRangeRuleRead (s : State) : Outcome := .next (onRequest .management .rangeRuleRead rangeRuleReadBody s)

end Sys2Proof.Machine
end

