-- ==== Sys2Proof/Machine/CardPath.lean ====
section
/-! DEFINITION. The card path's own operations (chapter 5): the session, checks, failures, the start and
the release of a payment, and the issuer table's requests. -/

namespace Sys2Proof.Machine

/-! ## Session and notices (R97, R115) -/

/-- Replace the card session. -/
def setSession (x : Session) (s : State) : State := { s with card := { s.card with session := x } }

/-- Queue CARD_STATE (R115). -/
def notifyCard (event : CardEvent) (reason : Option CardReason) (face : Option CardFace) (masked : Option Text)
    (payment : Option Payment) (amount : Option Nat) (s : State) : State :=
  offerNotice .card (.cardState {
    sale := s.saleNumber
    state := s.card.session.state
    event := event
    reason := reason
    face := face
    masked := masked
    payment := payment
    amount := amount
    failures := s.card.failures }) s

/-- Queue CARD_STATE for an event of the session as it stands (R115).  Attempt and tender index go with every event
of a session that holds a payment, in DONE too (DESIGN CHOICE, log entry 29). -/
def notifySession (event : CardEvent) (s : State) : State :=
  let x := s.card.session
  notifyCard event none x.face (x.face.map CardFace.masked) x.payment none s

/-- A card is inserted, as R105, R108, R109 and R112 test it: the entry mode is INSERT and a card is in the
reader. -/
def Session.inserted (x : Session) : Bool :=
  x.cardInReader && (match x.face with | some f => f.mode == .insert | none => false)

/-- The session with no card data held. -/
def noCard (x : Session) : Session := { State.resetSession with cardInReader := x.cardInReader }

/-- Enter NO_CARD: every card field is dropped (R97, R103). -/
def enterNoCard (s : State) : State := setSession (noCard s.card.session) s

/-- Enter DONE with REMOVE_CARD on the reader and in the prompt slot (R97, R108, R162). -/
def enterDone (s : State) : State :=
  let x := s.card.session
  let s := setSession { x with state := .done, full := none, cancelOrigin := none, deadline := none } s
  raiseSimple .removeCard (raiseReaderPrompt .removeCard (refreshReader s))

/-- A discarded pre-read: DONE when a card is in the reader, which keeps the masked account, entry mode and
route, else NO_CARD (R103, R104). -/
def discardCard (s : State) : State := if s.card.session.cardInReader then enterDone s else enterNoCard s

/-- A pre-read is discarded to DONE or NO_CARD, reported by CARD_STATE(DISCARDED) (R104), which is offered behind the
PROMPT of REMOVE_CARD (DESIGN CHOICE, log entry 15). -/
def discardPreRead (s : State) : State :=
  let face := s.card.session.face
  notifyCard .discarded none face (face.map CardFace.masked) none none (discardCard s)

/-- The REMOVE_CARD prompt of a DONE session is withdrawn on the reader and in the slot (R96, R98, R162).  An event
prompt that has replaced it on the reader stays its 3,000 ms (DESIGN CHOICE, log entry 29). -/
def leaveDone (s : State) : State :=
  let s := withdrawPrompt .removeCard s
  match s.card.prompt with
  | some p => if p.kind = .removeCard then dropReaderPrompt s else s
  | none => s

/-- The readiness follows a DONE session that has been left: it is sent though it has not changed, so that
the reader drops REMOVE_CARD (R96). -/
def readinessAfterDone (s : State) : State :=
  let old := s.card.light
  let s := refreshReader s
  if readinessOf old = readinessOf s.card.light then sendReadiness s else s

/-! ## Checks and failures (R99, R100, R102) -/

/-- Whether an issuer entry matches an account (R100). -/
def issuerMatches (account : Text) (e : IssuerEntry) : Bool :=
  let p := digitsValue (account.take 6)
  e.valid && e.low ≤ p && p ≤ e.high && e.minLength ≤ account.length && account.length ≤ e.maxLength

/-- The route class of an account: the first entry that matches (R100). -/
def routeOf (issuers : Vector IssuerEntry 64) (account : Text) : Option RouteClass :=
  match (List.finRange 64).find? fun i => issuerMatches account issuers[i] with
  | some i => if issuers[i].route = .refuse then none else some issuers[i].route
  | none => none

/-- The expiry test: passed while no date is set (R99). -/
def expiryOk (date : Option Nat) (expiry : Nat) : Bool :=
  match date with
  | some d => d ≤ expiry
  | none => true

/-- What the checks of R99 make of a well-formed card: a failure with its reason, whether it is counted and
whether its masked account is reported; or the card's route. -/
inductive CardVerdict
  | readFailure (reason : CardReason) (reported : Bool)
  | declined (reason : CardReason)
  | passes (route : RouteClass)
  deriving DecidableEq, Repr

/-- The checks of R99, in order. -/
def checkCard (issuers : Vector IssuerEntry 64) (date : Option Nat) (d : CardData) : CardVerdict :=
  if d.account.length < 12 ∨ 19 < d.account.length then .readFailure .length false
  else if !accountCheckOk d.account then .readFailure .checkDigit true
  else if !expiryOk date (digitsValue d.expiry) then .declined .expired
  else match routeOf issuers d.account with
    | some r => .passes r
    | none => .declined .issuer

/-- Raise TRY_CARD_AGAIN or CARD_DECLINED, on the reader and in the slot (R99, R102, R105). -/
def raiseCardPrompt (k : ReaderPromptKind) (slot : PromptKind) (s : State) : State :=
  raisePrompt ⟨slot, none⟩ 0 (some s.card.failures) (raiseReaderPrompt k s)

/-- Count a read failure; at the limit CARD_FAILURES is raised and the count returns to 0 (R102). -/
def countFailure (s : State) : State :=
  let n := s.card.failures + 1
  let s := raiseCardPrompt .tryCardAgain .tryCardAgain { s with card := { s.card with failures := n } }
  if s.lane.config.cardFailureLimit ≤ n then
    raiseCause .cardFailures 0 (some n) { s with card := { s.card with failures := 0 } }
  else s

/-- The face and the full data of a card that has passed (R97, R99). -/
def faceOf (d : CardData) (mode : EntryMode) (route : RouteClass) : CardFace := ⟨mode, maskAccount d.account, route⟩

/-- The full data of a card (R97). -/
def fullOf (d : CardData) : FullData := ⟨d.account, digitsValue d.expiry, d.service, d.issuerData⟩

/-! ## Start of a payment (R105, R106) -/

/-- Why a payment is declined before it starts (R105). -/
def localDecline (s : State) : Option CardReason :=
  if Config.cardTenderCapacity ≤ (cardTenders s.sale.lines).length then some .tenderLimit
  else if Config.lineCapacity ≤ s.sale.lines.length then some .saleFull
  else if 255 ≤ s.card.attempts then some .attempts
  else none

/-- A payment declined locally (R105); a pre-read declined so is a discard and is reported as one (R104).  The
state after it is that of R105, which asks for mode INSERT (DESIGN CHOICE, log entry 29). -/
def declineLocally (reason : CardReason) (face : CardFace) (s : State) : State :=
  let preRead := s.card.session.state == .preRead
  let s := setSession { noCard s.card.session with face := some face } s
  let s := raiseCardPrompt .cardDeclined .cardDeclined s
  let s := if s.card.session.inserted then enterDone s else enterNoCard s
  let s := if preRead then notifyCard .discarded none (some face) (some face.masked) none none s else s
  notifyCard .declined (some reason) (some face) (some face.masked) none none s

/-- The PAYMENT_REQUEST of the session (R106). -/
def paymentNotice (s : State) : Option Notice :=
  let x := s.card.session
  match x.face, x.full, x.payment with
  | some f, some d, some p =>
    some (.paymentRequest ⟨s.sale.number, p.attempt, p.tenderIndex, p.requested, f.route, f.mode, d⟩)
  | _, _, _ => none

/-- The PAYMENT_REQUEST has been queued: AWAIT_RESULT, with the deadline set (R106). -/
def requestSent (s : State) : State :=
  let x := s.card.session
  let s := setSession { x with state := .awaitResult, deadline := some (s.deadline s.lane.config.paymentLimit) } s
  notifyCard .requested none x.face (x.face.map CardFace.masked) x.payment (x.payment.map Payment.requested) s

/-- Offer the built PAYMENT_REQUEST to the outbound queue; without a place it waits and the session stays
CHECKED (R106).  A session that passes through CHECKED to AWAIT_RESULT in the one event queues CARD_STATE(REQUESTED) for
both changes (DESIGN CHOICE, log entry 10).  With 16 notices of the card path waiting already it is dropped (R186; log entry 16). -/
def offerRequest (s : State) : State :=
  match paymentNotice s with
  | some n =>
    if s.noticeRoom then requestSent (pushFrame (.notice n) s)
    else
      notifySession (Config.unnamedCardEvent .checked)
        (if waitingFrom .card s.link.waiters < Config.waitingNotices then
          { s with link := { s.link with waiters := s.link.waiters ++ [.paymentRequest] } }
        else s)
  | none => s

/-- A payment starts from a card that has passed its checks (R105). -/
def startPayment (face : CardFace) (full : FullData) (s : State) : State :=
  match localDecline s with
  | some reason => declineLocally reason face s
  | none =>
    let n := s.card.attempts + 1
    let p : Payment := ⟨s.balance.toNat, (cardTenders s.sale.lines).length + 1, n⟩
    offerRequest { s with card := { s.card with
      attempts := n
      session := ⟨.checked, some face, s.card.session.cardInReader, some full, some p, none, none⟩ } }

/-! ## What the sale record unit tells the card path (R8, R12, R22, R104, R111) -/

/-- A sale has opened: both counts start at 0 (R102, R105). -/
def cardSaleOpens (s : State) : State := { s with card := { s.card with failures := 0, attempts := 0 } }

/-- Payment has begun: a pre-read starts it (R104). -/
def cardPaymentBegins (s : State) : State :=
  match s.card.session.state, s.card.session.face, s.card.session.full with
  | .preRead, some f, some d => startPayment f d s
  | _, _, _ => s

/-- A sale settled by BEGIN_PAYMENT discards a pre-read (R104). -/
def cardSettledAtOnce (s : State) : State :=
  if s.card.session.state = .preRead then discardPreRead s else s

/-- The masked data the session still holds is dropped (R111). -/
def dropMasked (s : State) : State := setSession { noCard s.card.session with state := s.card.session.state } s

/-- The sale has been discarded (R22, R104, R111): a pre-read is discarded, remaining masked data is dropped,
and the session is NO_CARD, or DONE when a card is in the reader.  A payment that ends with the sale decides
the state itself (`finishPayment`). -/
def cardSaleEnds (s : State) : State :=
  match s.card.session.state with
  | .preRead => dropMasked (discardPreRead s)
  | .done => if s.card.session.cardInReader then dropMasked s else enterNoCard (leaveDone s)
  | .noCard =>
    if s.card.session.cardInReader && s.card.session.payment.isNone then
      notifySession (Config.unnamedCardEvent .done) (enterDone (enterNoCard s))
    else enterNoCard s
  | _ => s

/-! ## End of a payment (R108, R109, R112, R113, R116) -/

/-- The session leaves the three states of a payment in flight: the deadline and the full data go, the face
stays until the event has ended (R103, R108, R109). -/
def releasePayment (s : State) : State :=
  setSession { s.card.session with state := .noCard, full := none, cancelOrigin := none, deadline := none } s

/-- The ended payment's session goes to DONE or NO_CARD (R108, R109, R112, R113, R116); `old` is the
session as the payment left it.  Where the payment's end has discarded the sale, the later step of these rules,
which asks for mode INSERT, is followed and not R111 (DESIGN CHOICE, log entry 29). -/
def finishPayment (old : Session) (s : State) : State := if old.inserted then enterDone s else enterNoCard s

/-- Queue CARD_STATE(ENDED) for a payment (R108, R109, R112, R113, R116). -/
def notifyEnded (old : Session) (outcome : CardReason) (amount : Option Nat) (s : State) : State :=
  notifyCard .ended (some outcome) old.face (old.face.map CardFace.masked) old.payment amount s

/-- Queue PAYMENT_CANCEL for the payment in flight (R110, R111). -/
def notifyCancel (s : State) : State :=
  match s.card.session.payment with
  | some p => offerNotice .card (.paymentCancel s.sale.number p.attempt) s
  | none => s

/-- The payment is asked to be cancelled: the full data is erased and PAYMENT_CANCEL queued (R110, R111). -/
def askCancel (origin : CancelOrigin) (s : State) : State :=
  notifyCancel (setSession { s.card.session with
    state := .cancelAsked, cancelOrigin := some origin, full := none } s)

/-! ## Issuer table (R101) -/

/-- A six-digit prefix as a number (R100). -/
def prefixOf (t : Text) : Option Nat := if t.length = 6 ∧ t.all isDigit = true then some (digitsValue t) else none

/-- The entry an ISSUER_WRITE stores, or `none` where it is refused with RANGE (R101). -/
def issuerOf (w : IssuerWrite) : Option IssuerEntry :=
  let lo := clampNat 12 19 w.minLength
  let hi := clampNat 12 19 w.maxLength
  match prefixOf w.low, prefixOf w.high, w.route with
  | some l, some h, some r => if l ≤ h ∧ lo ≤ hi then some ⟨w.valid, l, h, lo, hi, r⟩ else none
  | _, _, _ => none

/-- ISSUER_WRITE (R101). -/
def issuerWriteBody (index : Nat) (w : IssuerWrite) (s : State) : State :=
  if s.sale.state ≠ .idle then replyRefused .management .issuerWrite .state s
  else if h : index < 64 then
    match issuerOf w with
    | none => replyRefused .management .issuerWrite .range s
    | some e =>
      replyDone .management .issuerWrite (.issuer e)
        { s with card := { s.card with issuers := s.card.issuers.set index e } }
  else replyRefused .management .issuerWrite .range s

def execIssuerWrite (index : Nat) (w : IssuerWrite) (s : State) : Outcome :=
  .next (onRequest .management .issuerWrite (issuerWriteBody index w) s)

/-- ISSUER_READ (R101). -/
def issuerReadBody (index : Nat) (s : State) : State :=
  if h : index < 64 then replyDone .management .issuerRead (.issuer s.card.issuers[index]) s
  else replyRefused .management .issuerRead .range s

def execIssuerRead (index : Nat) (s : State) : Outcome :=
  .next (onRequest .management .issuerRead (issuerReadBody index) s)

end Sys2Proof.Machine
end

