-- ==== Sys2Proof/Machine/Sale.lean ====
section
/-! DEFINITION. The sale record unit (chapter 1): opening, lines, settlement, discarding and closing of a
sale, and the meanings of its requests. -/

namespace Sys2Proof.Machine

/-! ## Notices and texts (R11, R26) -/

/-- Queue SALE_STATE (R26). -/
def notifySale (reason : SaleReason) (s : State) : State :=
  offerNotice .saleUnit (.saleState s.sale.state s.sale.number reason (totals s.sale.lines) s.sale.change) s

/-- Set the sale state. -/
def setSaleState (st : SaleState) (s : State) : State := { s with sale := { s.sale with state := st } }

/-- Enter a sale state; the rest text it selects follows at once (R163). -/
def enterSaleState (st : SaleState) (s : State) : State := refreshRest (setSaleState st s)

/-- The second row of a line text (R11). -/
def lineText (cfg : LaneConfig) (l : SaleLine) : Text :=
  let amount := amountText cfg.decimals cfg.separator l.amount
  match l.kind with
  | .item => decimal (l.quantity.getD 1) ++ Config.lineTextGap ++ amount
  | .weighed => weightText cfg.separator (l.weight.getD 0) ++ Config.lineTextGap ++ amount
  | _ => amount

/-- Queue LINE_ADDED for a line as it now stands, and hand its line text to the display (R11). -/
def notifyLine (number : Nat) (s : State) : State :=
  match lineAt? s.sale.lines number with
  | some l =>
    sendLineText l.description (lineText s.lane.config l)
      (offerNotice .saleUnit (.lineAdded l (totals s.sale.lines)) s)
  | none => s

/-- The number the next line takes (R2). -/
def State.nextLine (s : State) : Nat := s.sale.lines.length + 1

/-- Append a line with the next number (R2). -/
def appendLine (l : SaleLine) (s : State) : State := setLines (s.sale.lines ++ [{ l with number := s.nextLine }]) s

/-! ## Opening (R5, R8) -/

/-- The sale number after one (R5). -/
def nextSaleNumber (n : Nat) : Nat := if n = 9999 then 1 else n + 1

/-- A required channel raises PERIPHERAL_ABSENT at the opening of a sale while it is ABSENT (R181). -/
def channelAtOpening (ch : ChannelId) (s : State) : State :=
  if s.lane.config.requiredChannels.contains ch && !s.present ch then raiseCause .peripheralAbsent 0 (some ch.val) s
  else s

/-- A sale opens (R8), the rest text following its state (R163), and the channels that are faulty or absent raise their
causes (R71, R181). -/
def openSale (s : State) : State :=
  let s := { s with sale := {
    state := .opened, number := nextSaleNumber s.sale.number, lines := [], receiptSuppressed := false
    cancelPending := false, change := 0, receipt := .none, claim := none } }
  let s := notifySale .opened (cardSaleOpens (bagOpens (refreshRest s)))
  let s := scaleAtOpening .w1 (scaleAtOpening .w0 s)
  (List.finRange 5).foldl (fun s ch => channelAtOpening ch s) s

/-- A PAYING sale returns to OPEN (R13). -/
def resumeSale (s : State) : State := notifySale .resumed (enterSaleState .opened s)

/-- Whether a PAYING sale may return to OPEN (R6, R13). -/
def State.mayResume (s : State) : Bool := !hasTender s.sale.lines && !s.paymentInFlight && !s.cancelPending

/-! ## Closing and discarding (R21, R22) -/

/-- A SETTLED sale leaves for IDLE once its receipt is composed or suppressed and the drawer is neither
PULSING nor OPENING_WAIT (R21); a pending open that is then due pulses (R125). -/
def closeSale (s : State) : State :=
  let x := s.sale
  if x.state = .settled ∧ (x.receipt = .composed ∨ x.receipt = .suppressed) ∧ s.drawer.state.releasing = false then
    servePendingOpen (notifySale .closed { s with lastSale := some x, sale := { x with state := .idle, lines := [] } })
  else s

/-- The sale is discarded (R22); a pending open that is then due pulses (R125). -/
def discardSale (s : State) : State :=
  let s := cardSaleEnds (bagDiscards (emptyQueue s))
  servePendingOpen (notifySale .cancelled (setLines [] (enterSaleState .idle s)))

/-- A payment has ended with no tender: a pending cancel discards the sale (R23). -/
def paymentEndsEmpty (s : State) : State := if s.cancelPending then discardSale s else s

/-! ## Settlement (R19, R20, R51) -/

/-- The credit of a line (R51). -/
def lineCredit (l : SaleLine) : Option CacheWork :=
  if l.voided then none
  else match l.kind, l.code with
    | .item, some c => some (.credit c (l.quantity.getD 1) l.amount)
    | .weighed, some c => some (.credit c (l.weight.getD 0) l.amount)
    | _, _ => none

/-- The parts a settled sale wants printed; none where nothing is wanted (R20). -/
def wantedParts (cfg : LaneConfig) (x : SaleRecord) : Option JobParts :=
  let slips := if cfg.merchantCopy then (cardTenders x.lines).map SaleLine.number else []
  if x.receiptSuppressed ∧ slips = [] then none else some ⟨!x.receiptSuppressed, slips⟩

/-- Set the receipt state and the parts a waiting claim wants. -/
def setReceipt (r : ReceiptState) (claim : Option JobParts) (s : State) : State :=
  { s with sale := { s.sale with receipt := r, claim := claim } }

/-- The receipt claim of a settlement (R20). -/
def claimReceipt (s : State) : State :=
  match wantedParts s.lane.config s.sale with
  | none => setReceipt .suppressed none s
  | some p =>
    if s.jobRoom then queueJob .saleReceipt (some s.sale.number) (some p) .none (setReceipt .queued none s)
    else setReceipt .waitingRoom (some p) s

/-- The cash tenders of a sale. -/
def cashTenders (ls : List SaleLine) : List SaleLine := ls.filter fun l => l.kind == .cashTender

/-- A sale settles (R19); a pending open that is then due pulses (R125, R126). -/
def settleSale (s : State) : State :=
  let change := -s.balance
  let s := enterSaleState .settled { s with sale := { s.sale with change := change } }
  let s := cacheTakes (s.sale.lines.filterMap lineCredit) s
  let s := bagSettles s
  let cash := cashTenders s.sale.lines
  let s := servePendingOpen (drawerSettles ((cash.map SaleLine.amount).sum.toNat) (!cash.isEmpty) change s)
  closeSale (notifySale .settled (claimReceipt s))

/-- A sale settles where its balance is 0 or below (R19). -/
def settleIfPaid (s : State) : State := if s.balance ≤ 0 then settleSale s else s

/-! ## Lines from the scan queue (R9, R10, R11, R78) -/

/-- The line an offered head becomes, with the weight the bagging check expects (R9, R82). -/
def lineOf (e : ScanEntry) : Option (SaleLine × Int) :=
  match e.article with
  | none => none
  | some a =>
    let base : SaleLine :=
      { number := 0, kind := .item, amount := 0, code := some e.lookup, description := a.description
        ageRestricted := a.ageRestricted, noBag := a.noBag }
    match e.action, e.embedded, a.kind, e.weight with
    | some .embedPrice, some p, _, _ =>
      some ({ base with quantity := some 1, unitPrice := some p, amount := p }, a.expectedWeight)
    | some .embedWeight, some w, .weighed, _ =>
      some ({ base with kind := .weighed, weight := some w, unitPrice := some a.unitPrice,
                        amount := weighedPrice w a.unitPrice }, w)
    | _, _, .counted, _ =>
      some ({ base with quantity := some e.quantity, unitPrice := some a.unitPrice,
                        amount := e.quantity * a.unitPrice }, a.expectedWeight * e.quantity)
    | _, _, .weighed, some w =>
      some ({ base with kind := .weighed, weight := some w, unitPrice := some a.unitPrice,
                        amount := weighedPrice w a.unitPrice }, w)
    | _, _, .weighed, none => none

/-- The limits of R10. -/
def exceedsLimits (ls : List SaleLine) (amount : Int) : Bool :=
  decide (Config.lineCapacity ≤ ls.length) || decide (Config.maxLineAmount < amount)
    || decide (Config.maxItemTotal < itemTotal ls + amount)

/-- Whether the head is offered (R37). -/
def State.headReady (s : State) : Bool :=
  (match s.scan.queue.head? with | some e => e.state == .ready | none => false) && s.bagFree && !s.attention.hold

/-- The offered head is refused: sale full (R10, R36). -/
def refuseHead (amount : Int) (s : State) : State :=
  headChanged (raiseCause .saleFull 0 (some amount) (removeEntry 0 .saleFull s))

/-- The offered head becomes a line (R11): the rest text an AGE_CHECK selects is sent before the line text
(R163). -/
def addHeadLine (e : ScanEntry) (l : SaleLine) (expected : Int) (s : State) : State :=
  let n := s.nextLine
  let s := setQueue (s.scan.queue.drop 1) (appendLine l s)
  let s := bagTakesLine n l.noBag expected (match e.article with | some a => a.tolerance | none => 0) s
  let s := if l.ageRestricted then raiseCause .ageCheck n none s else s
  headChanged (notifyLine n s)

/-- HEAD_OFFERED (R9, R10, R11, R37). -/
def execHeadOffered (s : State) : Outcome :=
  match s.headReady, s.scan.queue.head? with
  | true, some e =>
    match lineOf e with
    | some (l, expected) =>
      .next (publish (if exceedsLimits s.sale.lines l.amount then refuseHead l.amount s else addHeadLine e l expected s))
    | none => .next s
  | _, _ => .next s

/-! ## Requests on the Sale address: the lane state first (R24) -/

/-- A request of the Sale address is refused with STATE while the lane is UNCONFIGURED (R24). -/
def saleRequest (req : Req) (body : State → State) (s : State) : State :=
  if s.lane.ready then body s else replyRefused .sale req .state s

/-! ## Paying and returning to scanning (R12, R13) -/

/-- Why BEGIN_PAYMENT is refused (R12). -/
def beginPaymentTest (s : State) : Option Reason :=
  if s.cancelPending then some .busy
  else if s.sale.state ≠ .opened then some .state
  else if s.anyAwait || s.attention.hold || !s.scan.queue.isEmpty then some .state
  else none

/-- An accepted BEGIN_PAYMENT (R12).  Where it settles the sale, a pre-read is discarded after SALE_STATE(SETTLED)
(DESIGN CHOICE, log entry 15). -/
def beginPaying (s : State) : State :=
  let s := notifySale .paying (enterSaleState .paying s)
  if 0 < s.balance then cardPaymentBegins s else cardSettledAtOnce (settleSale s)

/-- BEGIN_PAYMENT (R12). -/
def beginPaymentBody (s : State) : State :=
  match beginPaymentTest s with
  | some reason => replyRefused .sale .beginPayment reason s
  | none =>
    let s := beginPaying s
    replyDone .sale .beginPayment (.payment s.sale.state s.balance) s

def execBeginPayment (s : State) : Outcome :=
  .next (publish (onRequest .sale .beginPayment (saleRequest .beginPayment beginPaymentBody) s))

/-- RESUME_SCANNING (R13). -/
def resumeScanningBody (s : State) : State :=
  if s.cancelPending then replyRefused .sale .resumeScanning .busy s
  else if s.sale.state = .paying ∧ s.mayResume = true then replyDone .sale .resumeScanning .none (resumeSale s)
  else replyRefused .sale .resumeScanning .state s

def execResumeScanning (s : State) : Outcome :=
  .next (publish (onRequest .sale .resumeScanning (saleRequest .resumeScanning resumeScanningBody) s))

/-! ## Voids and discounts (R14, R15, R16) -/

/-- The voidable line of a number: an ITEM or WEIGHED line not yet voided (R14). -/
def voidTarget (s : State) (number : Nat) : Option SaleLine :=
  match lineAt? s.sale.lines number with
  | some l => if l.kind.isArticle && !l.voided then some l else none
  | none => none

/-- Why a void is refused, or its target (R14). -/
def voidTest (number : Nat) (s : State) : Except Reason SaleLine :=
  if !s.saleRunning || (s.sale.state == .paying && hasTender s.sale.lines) then .error .state
  else if s.cancelPending || s.paymentInFlight then .error .busy
  else match voidTarget s number with
    | none => .error .notFound
    | some l =>
      if l.bag = .bagged ∧ s.bagFree = false then .error .busy
      else if Config.lineCapacity ≤ s.sale.lines.length then .error .full
      else if itemTotal s.sale.lines - l.amount < 0 then .error .range
      else .ok l

/-- The VOID line of a target (R15). -/
def voidLineOf (l : SaleLine) : SaleLine :=
  { number := 0, kind := .void, code := l.code, description := l.description, amount := -l.amount, target := some l.number }

/-- The lines and bag states of an accepted void (R15, R89). -/
def applyVoid (l : SaleLine) (s : State) : State :=
  let s := appendLine (voidLineOf l) s
  bagVoids l (setLines (modifyLine s.sale.lines l.number fun t => { t with voided := true }) s)

/-- What follows the lines of an accepted void: LINE_ADDED, the line text, and a settlement in PAYING at
balance 0 (R15, R19). -/
def finishVoid (number : Nat) (s : State) : State :=
  let s := notifyLine number s
  if s.sale.state = .paying ∧ s.balance = 0 then settleSale s else s

/-- VOID_LINE (R14, R15). -/
def voidLineBody (number : Nat) (s : State) : State :=
  match voidTest number s with
  | .error reason => replyRefused .sale .voidLine reason s
  | .ok l =>
    let n := s.nextLine
    let s := applyVoid l s
    finishVoid n (replyDone .sale .voidLine (.voided n (totals s.sale.lines)) s)

def execVoidLine (number : Nat) (s : State) : Outcome :=
  .next (publish (onRequest .sale .voidLine (saleRequest .voidLine (voidLineBody number)) s))

/-- The amount a DISCOUNT stores: clamped so that the item total stays at 0 or above (R16). -/
def discountAmount (ls : List SaleLine) (amount : Nat) : Int := -(min (amount : Int) (max 0 (itemTotal ls)))

/-- Why a DISCOUNT is refused, or the code of its target (R16). -/
def discountTest (amount : Nat) (target : Option Nat) (s : State) : Except Reason (Option Code) :=
  if s.cancelPending then .error .busy
  else if s.sale.state ≠ .opened then .error .state
  else if amount = 0 ∨ 9999999 < amount then .error .range
  else
    match target with
    | none => if Config.lineCapacity ≤ s.sale.lines.length then .error .full else .ok none
    | some t =>
      match voidTarget s t with
      | none => .error .notFound
      | some l => if Config.lineCapacity ≤ s.sale.lines.length then .error .full else .ok l.code

/-- DISCOUNT (R16). -/
def discountBody (amount : Nat) (text : Text) (target : Option Nat) (s : State) : State :=
  match discountTest amount target s with
  | .error reason => replyRefused .sale .discount reason s
  | .ok code =>
    let n := s.nextLine
    let x := discountAmount s.sale.lines amount
    let s := appendLine
      { number := 0, kind := .discount, code := code, description := text.take 24, amount := x, target := target } s
    notifyLine n (replyDone .sale .discount (.line n x (totals s.sale.lines)) s)

def execDiscount (amount : Nat) (text : Text) (target : Option Nat) (s : State) : Outcome :=
  .next (publish (onRequest .sale .discount (saleRequest .discount (discountBody amount text target)) s))

/-! ## Tenders (R17, R18) -/

/-- Why a CASH_TENDER is refused (R17). -/
def cashTest (amount : Nat) (s : State) : Option Reason :=
  if s.sale.state ≠ .paying then some .state
  else if s.cancelPending || s.paymentInFlight then some .busy
  else if amount = 0 ∨ 99999999 < amount then some .range
  else if Config.lineCapacity ≤ s.sale.lines.length then some .full
  else none

/-- The change a balance leaves at settlement; none while money is owed (R17, R19). -/
def changeOf (balance : Int) : Option Int := if balance ≤ 0 then some (-balance) else none

/-- CASH_TENDER (R17). -/
def cashTenderBody (amount : Nat) (s : State) : State :=
  match cashTest amount s with
  | some reason => replyRefused .sale .cashTender reason s
  | none =>
    let n := s.nextLine
    let s := appendLine { number := 0, kind := .cashTender, description := ascii "CASH", amount := amount } s
    let t := totals s.sale.lines
    let s := replyDone .sale .cashTender (.cash n t.tender t.balance (changeOf t.balance)) s
    settleIfPaid (notifyLine n s)

def execCashTender (amount : Nat) (s : State) : Outcome :=
  .next (publish (onRequest .sale .cashTender (saleRequest .cashTender (cashTenderBody amount)) s))

/-- The sale record unit takes a card tender handed over by the card path: the amount is clamped to the
balance, a pending cancel lapses, and the sale settles at balance 0 (R18, R23). -/
def addCardTender (amount : Nat) (card : CardPart) (s : State) : State :=
  let n := s.nextLine
  let s := appendLine
    { number := 0, kind := .cardTender, description := routeText card.route, card := some card
      amount := min (amount : Int) s.balance } s
  let s := notifyLine n s
  let s :=
    if s.cancelPending then notifySale .cancelLapsed { s with sale := { s.sale with cancelPending := false } }
    else s
  settleIfPaid s

/-! ## Cancelling (R22, R23, R111, R116) -/

/-- Why CANCEL_SALE is refused (R22). -/
def cancelTest (s : State) : Option Reason :=
  if !s.saleRunning then some .state
  else if hasTender s.sale.lines then some .state
  else if s.cancelPending then some .busy
  else none

/-- A CHECKED payment is withdrawn before it is sent (R116). -/
def withdrawPayment (s : State) : State :=
  let old := s.card.session
  let s := paymentEndsEmpty (releasePayment (dropWaiter .paymentRequest s))
  notifyEnded old .withdrawn none (finishPayment old s)

/-- The card path takes a cancel of the sale with a payment in flight (R111).  PAYMENT_CANCEL is offered before the
CARD_STATE of the entry to CANCEL_ASKED (DESIGN CHOICE, log entry 15). -/
def cardCancelled (s : State) : State :=
  match s.card.session.state with
  | .awaitResult => notifySession (Config.unnamedCardEvent .cancelAsked) (askCancel .sale s)
  | .cancelAsked => setSession { s.card.session with cancelOrigin := some .sale } s
  | .checked => withdrawPayment s
  | _ => s

/-- CANCEL_SALE (R22, R23). -/
def cancelSaleBody (s : State) : State :=
  match cancelTest s with
  | some reason => replyRefused .sale .cancelSale reason s
  | none =>
    if s.paymentInFlight then
      let s := notifySale .cancelPending { s with sale := { s.sale with cancelPending := true } }
      replyDone .sale .cancelSale (.cancelled true) (cardCancelled s)
    else replyDone .sale .cancelSale (.cancelled false) (discardSale s)

def execCancelSale (s : State) : Outcome :=
  .next (publish (onRequest .sale .cancelSale (saleRequest .cancelSale cancelSaleBody) s))

/-! ## NO_RECEIPT (R20, R136) -/

/-- The job of the current sale's receipt (R136): the newest SALE_RECEIPT job of its number, since an earlier sale whose
job is still being printed may have had the same number (R5). -/
def receiptJob (s : State) : Option Job :=
  s.composer.jobs.reverse.find? fun j => j.kind == .saleReceipt && j.saleNumber == some s.sale.number

/-- Parts without the customer copy. -/
def withoutCopy (p : JobParts) : JobParts := { p with customer := false }

/-- NO_RECEIPT in SETTLED (R136). -/
def noReceiptSettled (s : State) : State :=
  match s.sale.receipt, s.sale.claim with
  | .waitingRoom, some p =>
    if p.slips = [] then
      replyDone .sale .noReceipt (.receiptParts none) (closeSale (setReceipt .suppressed none s))
    else replyDone .sale .noReceipt (.receiptParts (some (withoutCopy p))) (setReceipt .waitingRoom (some (withoutCopy p)) s)
  | .queued, _ =>
    match receiptJob s with
    | some j =>
      match j.state, j.parts with
      | .queued, some p =>
        if !p.customer then replyDone .sale .noReceipt (.receiptParts (some p)) s
        else if p.slips = [] then
          replyDone .sale .noReceipt (.receiptParts none)
            (closeSale (setReceipt .suppressed none (retireJob j .discarded true s)))
        else
          replyDone .sale .noReceipt (.receiptParts (some (withoutCopy p)))
            (modifyJob j.number (fun j => { j with parts := some (withoutCopy p) }) s)
      | _, _ => replyRefused .sale .noReceipt .state s
    | none => replyRefused .sale .noReceipt .state s
  | _, _ => replyRefused .sale .noReceipt .state s

/-- NO_RECEIPT (R20, R136). -/
def noReceiptBody (s : State) : State :=
  match s.sale.state with
  | .idle => replyRefused .sale .noReceipt .state s
  | .settled => noReceiptSettled s
  | _ => replyDone .sale .noReceipt .none { s with sale := { s.sale with receiptSuppressed := true } }

def execNoReceipt (s : State) : Outcome :=
  .next (publish (onRequest .sale .noReceipt (saleRequest .noReceipt noReceiptBody) s))

/-! ## SALE_READ (R1, R25) -/

/-- The header of a SALE_READ reply (R25), the current record in IDLE as R1 gives it. -/
def saleHeader (x : SaleRecord) : SaleHeader where
  state := x.state
  number := x.number
  lineCount := x.lines.length
  totals := totals x.lines
  change := if x.state = .idle then 0 else x.change
  receipt := if x.state = .idle then .none else x.receipt
  cancelPending := x.state != .idle && x.cancelPending

/-- The lines a SALE_READ reply carries (R25). -/
def linesFrom (ls : List SaleLine) (first count : Nat) : List SaleLine :=
  if first = 0 then [] else (ls.drop (first - 1)).take count

/-- SALE_READ (R25).  A LAST without a record whose range is also wrong is refused with RANGE (DESIGN CHOICE, log
entry 18). -/
def saleReadBody (selector : SaleSelector) (first count : Nat) (s : State) : State :=
  if 120 < first ∨ 8 < count then replyRefused .sale .saleRead .range s
  else
    match selector, s.lastSale with
    | .current, _ => replyDone .sale .saleRead (.saleRead (saleHeader s.sale) (linesFrom s.sale.lines first count)) s
    | .last, some x => replyDone .sale .saleRead (.saleRead (saleHeader x) (linesFrom x.lines first count)) s
    | .last, none => replyRefused .sale .saleRead .notFound s

def execSaleRead (selector : SaleSelector) (first count : Nat) (s : State) : Outcome :=
  .next (onRequest .sale .saleRead (saleRequest .saleRead (saleReadBody selector first count)) s)

end Sys2Proof.Machine
end

