-- ==== Sys2Proof/Machine/Payments.lean ====
section
/-! DEFINITION. Reader messages and payments (R95 to R116): the meanings of what the reader sends, of the
results and confirmations of the lane terminal, and of the card path's timers. -/

namespace Sys2Proof.Machine

/-! ## Reader messages (R95, R97, R98) -/

/-- How a card message is taken before any check (R98): BUSY, IGNORED, or taken. -/
def cardGate (s : State) : Option CardEvent :=
  if s.paymentInFlight then some .busy
  else if !s.lane.ready || !s.saleRunning then some .ignored
  else none

/-- READ_ERROR taken in OPEN or PAYING (R98, R102).  The PROMPT and ATTENTION of the failure are offered before its
CARD_STATE (DESIGN CHOICE, log entry 15). -/
def takeReadError (s : State) : State :=
  match cardGate s with
  | some e => notifySession e s
  | none => notifySession .readError (countFailure s)

/-- A card that has passed its checks (R98, R104, R105).  REMOVE_CARD of a DONE session is withdrawn here, and not for
a card that fails, as R99 says against R98 (DESIGN CHOICE, log entry 29). -/
def cardPasses (face : CardFace) (full : FullData) (s : State) : State :=
  let wasDone := s.card.session.state == .done
  let s := if wasDone then leaveDone s else s
  let inReader := s.card.session.cardInReader || face.mode == .insert
  let s :=
    if s.sale.state = .paying then
      startPayment face full (setSession { State.resetSession with cardInReader := inReader } s)
    else
      notifyCard .preRead none (some face) (some face.masked) none none
        (setSession ⟨.preRead, some face, inReader, some full, none, none, none⟩ s)
  if wasDone && s.card.session.state != .done then readinessAfterDone s else s

/-- A well-formed CARD_DATA taken for checking (R98, R99).  The PROMPT and ATTENTION of a failure or a decline are
offered before its CARD_STATE (DESIGN CHOICE, log entry 15).  A card in mode INSERT that fails a check leaves the card in
reader mark as it was: R99 leaves the session, though the field table of R97 sets the mark (DESIGN CHOICE, log entry 29). -/
def takeCard (d : CardData) (s : State) : State :=
  match checkCard s.card.issuers s.lane.date d, d.mode with
  | .readFailure reason reported, _ =>
    notifyCard .checkFailed (some reason) none (if reported then some (maskAccount d.account) else none) none none
      (countFailure s)
  | .declined reason, _ =>
    notifyCard .declined (some reason) none (some (maskAccount d.account)) none none
      (raiseCardPrompt .cardDeclined .cardDeclined s)
  | .passes route, some mode => cardPasses (faceOf d mode route) (fullOf d) s
  | .passes _, none => s

/-- CARD_DATA (R95, R98, R99). -/
def takeCardData (d : CardData) (s : State) : State :=
  if cardWellFormed d then
    match cardGate s with
    | some e => notifySession e s
    | none => takeCard d s
  else takeReadError s

/-- Set the card in reader mark. -/
def setInReader (v : Bool) (s : State) : State := setSession { s.card.session with cardInReader := v } s

/-- CARD_PRESENT (R98). -/
def takeCardPresent (s : State) : State := notifySession .present (setInReader true s)

/-- CARD_REMOVED (R98, R104).  The notice carries the card the event concerns, though the session has dropped
it (R115); DISCARDED comes before REMOVED (DESIGN CHOICE, log entry 15). -/
def takeCardRemoved (s : State) : State :=
  let face := s.card.session.face
  let s := setInReader false s
  let x := s.card.session
  let s :=
    match x.state, x.face with
    | .preRead, some f => if f.mode = .insert then discardPreRead s else s
    | .done, _ => readinessAfterDone (enterNoCard (leaveDone s))
    | _, _ => s
  notifyCard .removed none face (face.map CardFace.masked) s.card.session.payment none s

/-- The slot prompt of a reader event prompt. -/
def slotPrompt : ReaderPromptKind → Option PromptKind
  | .tryCardAgain => some .tryCardAgain
  | .cardDeclined => some .cardDeclined
  | .removeCard => none

/-- KEY OK (R97). -/
def takeKeyOk (s : State) : State :=
  let s :=
    match s.card.prompt with
    | some p =>
      match slotPrompt p.kind with
      | some k => dropEventPrompt k (endReaderPrompt s)
      | none => s
    | none => s
  notifySession .keyOk s

/-- KEY CANCEL (R110).  The notice carries the card and the payment the event concerns, though the session has dropped
them (R115); DISCARDED, ENDED or PAYMENT_CANCEL comes before it (DESIGN CHOICE, log entry 15). -/
def takeKeyCancel (s : State) : State :=
  let x := s.card.session
  let s :=
    match s.card.session.state with
    | .preRead => discardPreRead s
    | .checked => withdrawPayment s
    | .awaitResult => askCancel .key s
    | _ => s
  notifyCard .keyCancel none x.face (x.face.map CardFace.masked) x.payment none s

/-- A reader message of an unknown kind (R95). -/
def takeUnknownReader (s : State) : State := notifySession .unknownMessage s

/-- A message of channel 1 reaching the card path (R95, R182). -/
def takeReader (m : ReaderMessage) (s : State) : State :=
  match m with
  | .cardPresent => takeCardPresent s
  | .cardData d => takeCardData d s
  | .cardRemoved => takeCardRemoved s
  | .keyOk => takeKeyOk s
  | .keyCancel => takeKeyCancel s
  | .readError => takeReadError s
  | .unknown => takeUnknownReader s

/-- CARD_PRESENT (R98). -/
def execCardPresent (s : State) : Outcome := .next (publish (takeCardPresent s))

/-- CARD_DATA (R95, R98, R99, R104, R105). -/
def execCardData (d : CardData) (s : State) : Outcome := .next (publish (takeCardData d s))

/-- CARD_REMOVED (R98). -/
def execCardRemoved (s : State) : Outcome := .next (publish (takeCardRemoved s))

/-- READ_ERROR (R98, R102). -/
def execReadError (s : State) : Outcome := .next (publish (takeReadError s))

/-- KEY_CANCEL (R110, R116). -/
def execKeyCancel (s : State) : Outcome := .next (publish (takeKeyCancel s))

/-- KEY_OK (R97). -/
def execKeyOk (s : State) : Outcome := .next (publish (takeKeyOk s))

/-- UNKNOWN_READER_MESSAGE (R95). -/
def execUnknownReaderMessage (s : State) : Outcome := .next (publish (takeUnknownReader s))

/-! ## Waiting messages and requests (R96, R106, R166) -/

/-- PAYMENT_REQUEST (R106): the built request takes the place that has come to it. -/
def execPaymentRequest (s : State) : Outcome :=
  match s.card.session.state, paymentNotice s with
  | .checked, some n =>
    if s.waiterTurn .paymentRequest then
      let s := pushFrame (.notice n) { s with link := { s.link with waiters := s.link.waiters.drop 1 } }
      .next (publish (requestSent (refillQueue s)))
    else .next s
  | _, _ => .next s

/-- READER_MESSAGE_SENT (R96): the oldest reader message held joins channel 1's transmit queue. -/
def execReaderMessageSent (s : State) : Outcome :=
  match s.card.waiting with
  | m :: rest =>
    if s.present 1 && s.hasData 1 && s.transmitRoom 1 then
      .next (joinReader m { s with card := { s.card with waiting := rest } })
    else .next s
  | [] => .next s

/-- DISPLAY_MESSAGE_SENT (R166): the display message held joins channel 2's transmit queue. -/
def execDisplayMessageSent (s : State) : Outcome :=
  match s.attention.displayWaiting with
  | some m =>
    if s.present 2 && s.hasData 2 && s.transmitRoom 2 then
      .next (joinTransmit 2 (.bytes m) { s with attention := { s.attention with displayWaiting := none } })
    else .next s
  | none => .next s

/-- READER_PROMPT_EXPIRY (R96). -/
def execReaderPromptExpiry (s : State) : Outcome :=
  match s.card.prompt with
  | some p => if p.deadline.isSome then .next (endReaderPrompt s) else .next s
  | none => .next s

/-! ## Results, confirmations and expiry (R107 to R109, R112 to R114) -/

/-- Whether a result or confirmation names the payment in flight (R107, R112). -/
def matchesPayment (sale attempt : Nat) (s : State) : Bool :=
  let x := s.card.session
  (x.state == .awaitResult || x.state == .cancelAsked) && sale == s.sale.number
    && (match x.payment with | some p => p.attempt == attempt | none => false)

/-- An approval code: 6 characters of the printable set (R107). -/
def approvalOk (t : Text) : Bool := t.length == 6 && t.all fun b => 0x20#8 ≤ b && b ≤ 0x7E#8

/-- A PAYMENT_RESULT as it is taken: an approval of an amount, or none (R107). -/
inductive ResultTaken
  | approval (isPartial : Bool) (amount : Nat) (code : Text)
  | noTender (outcome : CardReason)
  deriving DecidableEq, Repr

/-- The fields of a PAYMENT_RESULT, or `none` where it is refused with RANGE (R107). -/
def resultOf (outcome : Option PaymentOutcome) (amount : Nat) (approval : Option Text) : Option ResultTaken :=
  if 99999999 < amount then none
  else
    match outcome, approval with
    | none, _ => none
    | some .declined, _ => some (.noTender .declined)
    | some .error, _ => some (.noTender .error)
    | some _, none => none
    | some o, some code =>
      if approvalOk code then
        if amount = 0 then some (.noTender .declined) else some (.approval (o == .partialApproval) amount code)
      else none

/-- A matching approval is applied (R108). -/
def applyApproval (isPartial : Bool) (amount : Nat) (code : Text) (s : State) : State :=
  let old := s.card.session
  match old.face, old.payment with
  | some f, some p =>
    let applicable := min amount p.requested
    let part : CardPart := ⟨f.masked, f.route, f.mode, code, isPartial || decide (applicable < p.requested)⟩
    let s := addCardTender applicable part (releasePayment s)
    notifyEnded old (if isPartial then .partialApproval else .approved) (some applicable) (finishPayment old s)
  | _, _ => s

/-- A payment ends with no tender by its result (R109). -/
def applyDecline (outcome : CardReason) (s : State) : State :=
  let old := s.card.session
  let s := paymentEndsEmpty (releasePayment s)
  notifyEnded old outcome none (finishPayment old (raiseCardPrompt .cardDeclined .cardDeclined s))

/-- A matching confirmation ends the payment (R112). -/
def applyConfirmation (s : State) : State :=
  let old := s.card.session
  notifyEnded old .cancelled none (finishPayment old (paymentEndsEmpty (releasePayment s)))

/-- The payment deadline has expired (R113). -/
def applyExpiry (s : State) : State :=
  let old := s.card.session
  let cancelled := s.cancelPending
  let s := paymentEndsEmpty (releasePayment s)
  let s := if cancelled then s else raiseCardPrompt .cardDeclined .cardDeclined s
  notifyEnded old .expired none (finishPayment old s)

/-- PAYMENT_RESULT (R107, R108, R109, R114).  REVERSAL carries what R114 lists and no account, though R103 names
a form of it there (DESIGN CHOICE, log entry 29). -/
def paymentResultBody (sale attempt : Nat) (outcome : Option PaymentOutcome) (amount : Nat) (approval : Option Text)
    (s : State) : State :=
  match resultOf outcome amount approval with
  | none => replyRefused .payment .paymentResult .range s
  | some (.approval isPartial amount code) =>
    if matchesPayment sale attempt s then
      replyDone .payment .paymentResult (.result true (some s.nextLine)) (applyApproval isPartial amount code s)
    else
      replyDone .payment .paymentResult (.result false none)
        (offerNotice .card (.reversal sale attempt code amount) s)
  | some (.noTender o) =>
    if matchesPayment sale attempt s then replyDone .payment .paymentResult (.result true none) (applyDecline o s)
    else replyDone .payment .paymentResult (.result false none) s

def execPaymentResult (sale attempt : Nat) (outcome : Option PaymentOutcome) (amount : Nat) (approval : Option Text)
    (s : State) : Outcome :=
  .next (publish (onRequest .payment .paymentResult (paymentResultBody sale attempt outcome amount approval) s))

/-- CANCEL_CONFIRMED (R112). -/
def cancelConfirmedBody (sale attempt : Nat) (s : State) : State :=
  if matchesPayment sale attempt s then
    replyDone .payment .cancelConfirmed (.confirmed true) (applyConfirmation s)
  else replyDone .payment .cancelConfirmed (.confirmed false) s

def execCancelConfirmed (sale attempt : Nat) (s : State) : Outcome :=
  .next (publish (onRequest .payment .cancelConfirmed (cancelConfirmedBody sale attempt) s))

/-- PAYMENT_DEADLINE_EXPIRY (R113). -/
def execPaymentDeadlineExpiry (s : State) : Outcome :=
  match s.card.session.state with
  | .awaitResult => .next (publish (applyExpiry s))
  | .cancelAsked => .next (publish (applyExpiry s))
  | _ => .next s

end Sys2Proof.Machine
end

