-- ==== Sys2Proof/Machine/Printing.lean ====
section
/-! DEFINITION. The print mechanism (chapter 8) and the composer writing into its ring (R134, R146, R147):
the next element, the end of lines and cuts, latches, faults, and the meanings of the events that drive
them. -/

namespace Sys2Proof.Machine

/-! ## State (R150, R151) -/

/-- Replace the mechanism's state. -/
def setMechanism (m : Mechanism) (s : State) : State := { s with mechanism := m }

/-- Whether the mechanism has work (R151). -/
def Mechanism.hasWork (m : Mechanism) : Bool := m.repeatCut || !m.continuation.isEmpty || !m.ring.isEmpty

/-- The printer state (R150).  A latch takes effect when the element in progress ends. -/
def Mechanism.state (m : Mechanism) : PrinterState :=
  if m.inProgress.isSome then .printing
  else if m.fault.isSome then .fault
  else if m.stopped then .suspended
  else if m.hot then .pausedHot
  else if m.hasWork then .printing
  else .ready

/-- Dot lines of the ring. -/
def RingElement.isLine : RingElement → Bool
  | .line _ _ => true
  | .cut _ _ => false

/-- Dot lines held in the ring, the one being printed included (R146). -/
def Mechanism.ringLines (m : Mechanism) : Nat := (m.ring.filter RingElement.isLine).length

/-- Free lines of the ring (R146). -/
def Mechanism.freeLines (m : Mechanism) : Nat := Config.ringCapacity - m.ringLines

/-- Job of a ring element. -/
def RingElement.job : RingElement → Nat
  | .line _ j => j
  | .cut j _ => j

/-- The job of the ring head (R159, R160). -/
def Mechanism.headJob (m : Mechanism) : Option Nat := m.ring.head?.map RingElement.job

/-! ## Heat and strobes (R152, R153, R154, R155) -/

/-- The band of a temperature: the number of thresholds at or below it (R152). -/
def bandOf (h : HeatTables) (t : Int) : Nat := (h.thresholds.toList.filter fun x => x ≤ t).length

/-- The hot latch after a band (R153). -/
def hotAfter (hot : Bool) (band : Option Nat) : Bool :=
  match band with
  | some b => if b = 7 then true else if b ≤ 5 then false else hot
  | none => hot

/-- The base time of a line started now (R154); with no band it is a free value. -/
def Mechanism.baseTime (m : Mechanism) : Nat :=
  match m.band with
  | some b => m.heat.baseTimes.toList.getD b 0
  | none => Config.baseTimeWithoutBand

/-- The history class of a dot (R154). -/
def historyClass (previous beforePrevious : DotLine) (x : Nat) : Nat :=
  (if previous.testBit x then 2 else 0) + (if beforePrevious.testBit x then 1 else 0)

/-- Black dots of a line in a history class, in rising order (R155). -/
def classDots (m : Mechanism) (dots : DotLine) (h : Nat) : List Nat :=
  (List.range 576).filter fun x => dots.testBit x && historyClass m.previous m.beforePrevious x == h

/-- A pass cut into runs of at most `limit` dots, with fuel (R155). -/
def chunks (limit : Nat) : Nat → List Nat → List (List Nat)
  | 0, _ => []
  | _ + 1, [] => []
  | k + 1, l => l.take limit :: chunks limit k (l.drop limit)

/-- Strobe time of a history class in µs (R154). -/
def Mechanism.strobe (m : Mechanism) (h : Nat) : Nat := m.baseTime * m.heat.factors.toList.getD h 0 / 16

/-- The sub-passes of a line started now (R155). -/
def linePasses (m : Mechanism) (dots : DotLine) : List SubPass :=
  (List.range 4).flatMap fun h =>
    (chunks m.heat.dotLimit 576 (classDots m dots h)).map fun ds => ⟨h, ds, m.strobe h⟩

/-- Printing time of a line in µs: its strobes and the 600 µs motor step (R155). -/
def lineMicros (passes : List SubPass) : Nat := (passes.map SubPass.micros).sum + 600

/-! ## The next element (R151, R156) -/

/-- The element that starts next: the repeat cut, the continuation lines, the ring head (R151). -/
def nextElement (m : Mechanism) : Option InProgress :=
  match m.repeatCut, m.continuation, m.ring with
  | true, _, .cut j last :: _ => some (.cut j last)
  | true, _, _ => none
  | false, d :: _, _ => some (.line d none (linePasses m d))
  | false, [], .line d j :: _ => some (.line d (some j) (linePasses m d))
  | false, [], .cut j last :: _ => some (.cut j last)
  | false, [], [] => none

/-- In READY or PRINTING with no element in progress the next element starts (R151). -/
def startNext (m : Mechanism) : Mechanism :=
  match m.inProgress, m.state with
  | none, .printing => { m with inProgress := nextElement m }
  | _, _ => m

/-- The history is cleared when the state becomes FAULT, SUSPENDED or PAUSED_HOT (R150). -/
def clearsHistory (old new : PrinterState) : Bool :=
  old != new && (new == .fault || new == .suspended || new == .pausedHot)

/-! ## PRINTER_STATE (R160) -/

/-- What a PRINTER_STATE notice carries (R160). -/
def printerReport (m : Mechanism) : PrinterNotice where
  state := m.state
  fault := m.fault
  paperPresent := m.paperPresent
  paperNearEnd := m.paperNearEnd
  coverClosed := m.coverClosed
  cutterHome := m.cutterHome
  band := m.band
  temperature := m.temperature
  ringLines := m.ringLines
  continuation := m.continuation.length
  headJob := m.headJob

/-- Whether a change is reported by PRINTER_STATE (R160). -/
def printerChanged (old new : Mechanism) : Bool :=
  old.state != new.state || old.fault != new.fault || old.paperPresent != new.paperPresent
    || old.coverClosed != new.coverClosed || old.paperNearEnd != new.paperNearEnd

/-- What follows an event at the mechanism: the history is cleared at a stop, the next element starts, and
a change is reported (R150, R151, R160). -/
def mechanismSettles (old : Mechanism) (s : State) : State :=
  let m := s.mechanism
  let m := if clearsHistory old.state m.state then { m with previous := 0, beforePrevious := 0 } else m
  let m := startNext m
  let s := setMechanism m s
  if printerChanged old m then offerNotice .mechanism (.printerState (printerReport m)) s else s

/-- An event that changes the mechanism alone. -/
def mechanismEvent (f : Mechanism → Mechanism) (s : State) : State :=
  mechanismSettles s.mechanism (setMechanism (f s.mechanism) s)

/-- Set the fault latch and raise PRINTER_FAULT (R157): detail 1 for CUTTER_JAM, 2 for THERMISTOR_OPEN. -/
def raisePrinterFault (k : FaultKind) (s : State) : State :=
  raiseCause .printerFault 0 (some (match k with | .cutterJam => 1 | .thermistorOpen => 2)) s

/-! ## Writing into the ring (R134, R146) -/

/-- The job being composed. -/
def composingJob (s : State) : Option Job := s.composer.jobs.find? fun j => j.state == .composing

/-- Whether an element finds its room (R146). -/
def hasRoom (m : Mechanism) : Element → Bool
  | .row lines => decide (lines.length ≤ m.freeLines)
  | .line _ => decide (1 ≤ m.freeLines)
  | .missing => true
  | .cut _ => true

/-- Append elements to the ring. -/
def appendRing (es : List RingElement) (s : State) : State :=
  setMechanism { s.mechanism with ring := s.mechanism.ring ++ es } s

/-- The composition of a job has ended with its last cut mark (R134). -/
def endComposition (j : Job) (s : State) : State :=
  let j := { j with state := .printing }
  let s := modifyJob j.number (fun k => { k with state := .printing }) s
  let s := notifyJob j false (setComposer { s.composer with composing := false, todo := [] } s)
  if j.kind = .saleReceipt ∧ s.sale.state = .settled ∧ j.saleNumber = some s.sale.number then
    closeSale (setReceipt .composed none s)
  else s

/-- Write one element of the composition (R145, R146); the last cut mark ends it. -/
def writeElement (j : Job) (e : Element) (s : State) : State :=
  match e with
  | .row lines => appendRing (lines.map fun d => .line d j.number) s
  | .line d => appendRing [.line d j.number] s
  | .missing => modifyJob j.number (fun k => { k with templateMissing := true }) s
  | .cut last =>
    let s := appendRing [.cut j.number last] (modifyJob j.number (fun k => { k with cuts := k.cuts + 1 }) s)
    if last then endComposition j s else s

/-- The elements of the composition not yet written. -/
def setTodo (es : List Element) (s : State) : State := setComposer { s.composer with todo := es } s

/-- Write the elements that find their room, in order (R146). -/
def writeOn : List Element → State → State
  | [], s => s
  | e :: rest, s =>
    match composingJob s with
    | none => s
    | some j => if hasRoom s.mechanism e then writeOn rest (writeElement j e (setTodo rest s)) else s

/-- The oldest QUEUED job, where the composer is IDLE (R134). -/
def queuedJob (s : State) : Option Job :=
  if s.composer.composing then none else s.composer.jobs.find? fun j => j.state == .queued

/-- A job as its composition starts: a REPRINT records the sale it prints (R134). -/
def startedJob (last : Option SaleRecord) (j : Job) : Job :=
  { j with
    state := .composing
    saleNumber := if j.kind = .reprint then last.map SaleRecord.number else j.saleNumber }

/-- The composition of a job starts (R134), and the elements that find their room are written (R146). -/
def startComposition (j : Job) (s : State) : State :=
  let j := startedJob s.lastSale j
  let style : NumberStyle := ⟨s.lane.config.decimals, s.lane.config.separator⟩
  let todo := jobElements s.composer style s.sale s.lastSale j
  let s := modifyJob j.number (fun _ => j) s
  let s := notifyJob j false (setComposer { s.composer with composing := true, todo := todo } s)
  writeOn todo s

/-- Start the queued jobs in turn while each composition ends within the event (R134). -/
def startCompositions : Nat → State → State
  | 0, s => s
  | k + 1, s =>
    match queuedJob s with
    | some j => startCompositions k (startComposition j s)
    | none => s

/-- Go on writing, and start the next jobs as compositions end (R134, R146). -/
def composeOn (s : State) : State :=
  let old := s.mechanism
  let s := writeOn s.composer.todo s
  let s := if s.composer.composing then s else startCompositions (Config.jobCapacity + 1) s
  mechanismSettles old s

/-- Whether the composer waits at an element that finds its room. -/
def State.elementReady (s : State) : Bool :=
  match s.composer.composing, s.composer.todo with
  | true, e :: _ => hasRoom s.mechanism e
  | _, _ => false

/-- COMPOSITION_START (R134).  PRINTER_STATE(PRINTING) is offered last, after the JOB_STATE and SALE_STATE of what the
event has written (DESIGN CHOICE, log entry 15). -/
def execCompositionStart (s : State) : Outcome :=
  match queuedJob s with
  | some _ => .next (publish (mechanismSettles s.mechanism (startCompositions (Config.jobCapacity + 1) s)))
  | none => .next s

/-- RING_ELEMENT_WRITTEN (R146). -/
def execRingElementWritten (s : State) : Outcome :=
  if s.elementReady then .next (publish (composeOn s)) else .next s

/-! ## Lines and cuts (R151, R156, R134) -/

/-- A printed line enters the history (R151). -/
def shiftHistory (d : DotLine) (m : Mechanism) : Mechanism := { m with beforePrevious := m.previous, previous := d }

/-- DOT_LINE_END (R151): the motor step of the line in progress has ended. -/
def execDotLineEnd (s : State) : Outcome :=
  let m := s.mechanism
  match m.inProgress with
  | some (.line d (some _) _) =>
    .next (mechanismEvent (fun m => shiftHistory d { m with inProgress := none, ring := m.ring.drop 1 }) s)
  | some (.line d none _) =>
    let rest := m.continuation.drop 1
    let s' := mechanismEvent (fun m => shiftHistory d { m with inProgress := none, continuation := rest }) s
    .next (if rest = [] then setComposer { s'.composer with continuation := [] } s' else s')
  | _ => .next s

/-- The composer takes a cut report (R134): the last mark makes the job DONE. -/
def cutReport (job : Nat) (last : Bool) (s : State) : State :=
  let s := modifyJob job (fun j => { j with cuts := j.cuts - 1 }) s
  match jobAt? job s with
  | some j => if last && j.state == .printing && j.cuts == 0 then retireJob j .done false s else s
  | none => s

/-- Set the cutter home level. -/
def setCutterHome (v : Bool) (s : State) : State :=
  { s with pins := { s.pins with cutterHome := v }, mechanism := { s.mechanism with cutterHome := v } }

/-- A cut ends: the cutter home input shows home again (R156).  The repeat cut is cleared here, at its end (DESIGN
CHOICE, log entry 28). -/
def endCut (job : Nat) (last : Bool) (s : State) : State :=
  let old := s.mechanism
  let s := setCutterHome true s
  let s := setMechanism { s.mechanism with
    inProgress := none, ring := s.mechanism.ring.drop 1, previous := 0, beforePrevious := 0, repeatCut := false } s
  publish (mechanismSettles old (cutReport job last s))

/-- CUT_END (R156): the cutter has left home and shows home again. -/
def execCutEnd (s : State) : Outcome :=
  match s.mechanism.inProgress with
  | some (.cut job last) => .next (endCut job last s)
  | _ => .next s

/-- CUT_JAM_EXPIRY (R156, R157): the cut has not ended within 500 ms.  ATTENTION is offered before
PRINTER_STATE (DESIGN CHOICE, log entry 15). -/
def execCutJamExpiry (cutterHome : Bool) (s : State) : Outcome :=
  match s.mechanism.inProgress with
  | some (.cut _ _) =>
    let old := s.mechanism
    let s := setCutterHome cutterHome s
    let s := setMechanism { s.mechanism with inProgress := none, fault := some .cutterJam, repeatCut := true } s
    .next (publish (mechanismSettles old (raisePrinterFault .cutterJam s)))
  | _ => .next s

/-! ## Thermistor and sensors (R153, R157) -/

/-- A reading that gives a temperature (R153). -/
def takeTemperature (t : Int) (m : Mechanism) : Mechanism :=
  let b := bandOf m.heat t
  { m with temperature := some t, band := some b, openRun := 0, hot := hotAfter m.hot (some b) }

/-- The third OPEN reading in a row (R153, R157).  ATTENTION is offered before PRINTER_STATE (DESIGN CHOICE, log
entry 15). -/
def thermistorOpens (s : State) : State :=
  let old := s.mechanism
  let s := setMechanism { s.mechanism with openRun := 3, temperature := none, band := none, fault := some .thermistorOpen } s
  mechanismSettles old (raisePrinterFault .thermistorOpen s)

/-- A thermistor reading (R153).  The third OPEN reading of a run sets the fault latch, and the later ones of the run
do not set it again, though the latch may have been cleared meanwhile (DESIGN CHOICE, log entry 27). -/
def takeThermistor (reading : Option Int) (s : State) : State :=
  let s := { s with pins := { s.pins with thermistor := reading } }
  match reading with
  | some t => mechanismEvent (takeTemperature t) s
  | none =>
    if s.mechanism.openRun = 2 then thermistorOpens s
    else setMechanism { s.mechanism with openRun := min 3 (s.mechanism.openRun + 1) } s

/-- THERMISTOR_READING (R153). -/
def execThermistorReading (reading : Option Int) (s : State) : Outcome := .next (publish (takeThermistor reading s))

/-- THERMISTOR_OPEN_FAULT (R153, R157): the OPEN reading that is the third in a row. -/
def execThermistorOpenFault (s : State) : Outcome :=
  if s.mechanism.openRun = 2 then .next (publish (takeThermistor none s)) else .next s

/-- PAPER_PRESENT_CHANGE (R157). -/
def execPaperPresentChange (level : Bool) (s : State) : Outcome :=
  if s.mechanism.paperPresent = level then .next s
  else .next (mechanismEvent (fun m => { m with paperPresent := level, stopped := m.stopped || !level })
    { s with pins := { s.pins with paperPresent := level } })

/-- COVER_CLOSED_CHANGE (R157). -/
def execCoverClosedChange (level : Bool) (s : State) : Outcome :=
  if s.mechanism.coverClosed = level then .next s
  else .next (mechanismEvent (fun m => { m with coverClosed := level, stopped := m.stopped || !level })
    { s with pins := { s.pins with coverClosed := level } })

/-- PAPER_NEAR_END_CHANGE (R157). -/
def execPaperNearEndChange (level : Bool) (s : State) : Outcome :=
  if s.mechanism.paperNearEnd = level then .next s
  else .next (mechanismEvent (fun m => { m with paperNearEnd := level })
    { s with pins := { s.pins with paperNearEnd := level } })

/-- CUTTER_HOME_CHANGE (R156, R157, R158): the level is noted, and home shown again during a cut ends the cut. -/
def execCutterHomeChange (level : Bool) (s : State) : Outcome :=
  match s.mechanism.inProgress, level && !s.mechanism.cutterHome with
  | some (.cut job last), true => .next (endCut job last s)
  | _, _ => .next (setCutterHome level s)

/-! ## Clearance, resume and reads (R147, R158, R159, R160) -/

/-- Whether the fault input of the kind held has gone (R158). -/
def faultGone (m : Mechanism) : Bool :=
  match m.fault with
  | some .cutterJam => m.cutterHome
  | some .thermistorOpen => m.openRun == 0
  | none => true

/-- An accepted clearance clears the fault latch (R158). -/
def clearFault (s : State) : State := mechanismEvent (fun m => { m with fault := none }) s

/-- The CONTINUED row naming a job (R147). -/
def continuedRow (c : Composer) (job : Nat) : List DotLine :=
  let e := c.format .continued
  if e.printed then drawRow c e (labelled e.label []) (decimal job) else []

/-- The continuation an accepted RESUME_PRINT hands over (R147, R159). -/
def resumeLines (s : State) : List DotLine :=
  match s.mechanism.headJob with
  | some j => continuedRow s.composer j
  | none => []

/-- RESUME_PRINT (R147, R159). -/
def resumePrintBody (s : State) : State :=
  let m := s.mechanism
  if m.state ≠ .suspended ∨ m.paperPresent = false ∨ m.coverClosed = false then
    replyRefused .print .resumePrint .state s
  else
    let lines := resumeLines s
    let s := setComposer { s.composer with continuation := lines } s
    let s := mechanismEvent (fun m => { m with stopped := false, continuation := lines }) s
    replyDone .print .resumePrint (.resumed s.mechanism.state s.mechanism.continuation.length) s

def execResumePrint (s : State) : Outcome := .next (publish (onRequest .print .resumePrint resumePrintBody s))

/-- PRINTER_READ (R160). -/
def printerReadBody (s : State) : State :=
  let m := s.mechanism
  replyDone .print .printerRead (.printer (printerReport m) m.hot m.stopped m.repeatCut m.heat) s

def execPrinterRead (s : State) : Outcome := .next (onRequest .print .printerRead printerReadBody s)

/-! ## Heat tables (R152) -/

/-- Whether seven thresholds rise strictly. -/
def strictlyRising : List Int → Bool
  | a :: b :: rest => decide (a < b) && strictlyRising (b :: rest)
  | _ => true

/-- The heat tables a HEAT_TABLE_WRITE stores, or `none` where it is refused with RANGE (R152). -/
def heatTablesOf (h : HeatTables) : Option HeatTables :=
  let ts := h.thresholds.map (clampInt (-40) 150)
  if strictlyRising ts.toList then
    some ⟨ts, h.baseTimes.map (clampNat 100 2000), h.factors.map (clampNat 8 32), clampNat 64 576 h.dotLimit⟩
  else none

/-- The tables take effect: the band is evaluated anew and the hot latch follows (R152). -/
def useHeat (h : HeatTables) (m : Mechanism) : Mechanism :=
  let band := m.temperature.map (bandOf h)
  { m with heat := h, band := band, hot := hotAfter m.hot band }

/-- HEAT_TABLE_WRITE (R152, R189). -/
def heatTableWriteBody (h : HeatTables) (s : State) : State :=
  match heatTablesOf h with
  | none => replyRefused .management .heatTableWrite .range s
  | some h => replyDone .management .heatTableWrite (.heat h) (mechanismEvent (useHeat h) s)

def execHeatTableWrite (h : HeatTables) (s : State) : Outcome :=
  .next (publish (onRequest .management .heatTableWrite (heatTableWriteBody h) s))

/-! ## Reset (R161) -/

/-- The mechanism at a reset, from the inputs and the first thermistor reading (R161). -/
def mechanismReset (p : Pins) (h : HeatTables) : Mechanism where
  ring := []
  inProgress := none
  previous := 0
  beforePrevious := 0
  temperature := p.thermistor
  band := p.thermistor.map (bandOf h)
  openRun := if p.thermistor.isNone then 1 else 0
  hot := hotAfter false (p.thermistor.map (bandOf h))
  stopped := !p.paperPresent || !p.coverClosed
  fault := if p.thermistor.isNone then some .thermistorOpen else if p.cutterHome then none else some .cutterJam
  repeatCut := false
  paperPresent := p.paperPresent
  paperNearEnd := p.paperNearEnd
  coverClosed := p.coverClosed
  cutterHome := p.cutterHome
  continuation := []
  heat := h

end Sys2Proof.Machine
end

