-- ==== Sys2Proof/Machine/ScanPath.lean ====
section
/-! DEFINITION. The scan path and the converters' samples: admission and taking of codes (R6, R7, R34),
and the meanings of scan intake's and the weighing channels' events but CODE_MESSAGE, which stands with the bus that
holds its message. -/

namespace Sys2Proof.Machine

/-! ## Admission (R6) -/

/-- The admission test: `none` passes the code to scan intake; a refusal has its prompt, if any (R6). -/
def admission (s : State) : Option (Option PromptKind) :=
  if !s.lane.ready then some none
  else match s.sale.state with
    | .idle => if s.lane.config.closeBeforeNext && s.drawer.state != .closed then some (some .closeDrawer) else none
    | .opened => none
    | .paying => if s.mayResume then none else some (some .finishPayment)
    | .settled => some (some .takeReceipt)

/-- A code refused by the admission test (R6). -/
def refuseCode (source : ScanSource) (code : Text) (prompt : Option PromptKind) (s : State) : State :=
  let s := rejectTone source (notifyRefused source code .state s)
  match prompt with
  | some k => raiseSimple k s
  | none => s

/-! ## Scan intake's tests (R28, R30, R34) -/

/-- The outcome of scan intake's tests: a reason, or the rule outcome of a code to take (R34). -/
def intakeTest (source : ScanSource) (code : Text) (s : State) : Except ScanReason RuleOutcome :=
  if !codePasses source code then .error .check
  else
    let r := applyRules s.scan.rules code
    if r.refused then .error .rule
    else if Config.scanCapacity ≤ s.scan.queue.length then .error .queueFull
    else .ok r

/-- Taking a code opens the sale in IDLE and returns it to OPEN in PAYING (R8, R13, R34). -/
def saleTakesCode (s : State) : State :=
  match s.sale.state with
  | .idle => openSale s
  | .paying => resumeSale s
  | _ => s

/-- A taken code joins the tail in CHECKING and resolves (R34, R35). -/
def takeCode (source : ScanSource) (code : Text) (quantity : Nat) (r : RuleOutcome) (s : State) : State :=
  let e : ScanEntry := ⟨code, r.lookup, source, quantity, r.rule, .checking, none, r.embedded, none⟩
  let i := s.scan.queue.length
  headChanged (checkEntry i (saleTakesCode (setQueue (s.scan.queue ++ [e]) s)))

/-- The prompt of a scanned code refused by scan intake (R34). -/
def intakePrompt : ScanReason → Option PromptKind
  | .check => some .scanAgain
  | .rule => some .itemUnknown
  | _ => none

/-- A scanner code message reaching scan intake (R6, R34). -/
def takeScanned (code : Text) (s : State) : State :=
  match admission s with
  | some prompt => refuseCode .scanner code prompt s
  | none =>
    match intakeTest .scanner code s with
    | .ok r => takeCode .scanner code 1 r (sendTone .good s)
    | .error reason =>
      let s := sendTone .reject (notifyRefused .scanner code reason s)
      match intakePrompt reason with
      | some k => raiseSimple k s
      | none => s

/-- The reply reason of a keyed code refused by scan intake (R34). -/
def keyedReason : ScanReason → Reason
  | .queueFull => .full
  | _ => .range

/-- KEYED_CODE (R7, R34). -/
def keyedCodeBody (code : Text) (quantity : Nat) (s : State) : State :=
  if !isCode code || quantity == 0 || decide (99 < quantity) then replyRefused .sale .keyedCode .range s
  else
    match admission s with
    | some prompt => replyRefused .sale .keyedCode .state (refuseCode .keyed code prompt s)
    | none =>
      match intakeTest .keyed code s with
      | .ok r =>
        let s := takeCode .keyed code quantity r s
        replyDone .sale .keyedCode (.sale s.sale.number) s
      | .error reason => replyRefused .sale .keyedCode (keyedReason reason) s

def execKeyedCode (code : Text) (quantity : Nat) (s : State) : Outcome :=
  .next (publish (onRequest .sale .keyedCode (saleRequest .keyedCode (keyedCodeBody code quantity)) s))

/-! ## Scan intake's own events (R38, R40, R76, R77) -/

/-- Whether a listed code's deadline runs (R40). -/
def deadlineRuns (code : Code) (s : State) : Bool :=
  s.scan.lookups.any fun l => l.code == code && l.deadline.isSome

/-- LOOKUP_EXPIRY (R40). -/
def execLookupExpiry (code : Code) (s : State) : Outcome :=
  if deadlineRuns code s then
    let s := (removeWaiting code .timeout Config.scanCapacity s).1
    .next (publish (headChanged (setLookups (s.scan.lookups.filter fun l => l.code != code) s)))
  else .next s

/-- TONE_HOLD_END (R38): the current gate value is sent again. -/
def execToneHoldEnd (s : State) : Outcome :=
  if s.scan.tone.isSome then
    .next (setStatus 0 (gateCode s.scan.gate) { s with scan := { s.scan with tone := none } })
  else .next s

/-- CAPTURE_TIMER_EXPIRY (R77). -/
def execCaptureTimerExpiry (s : State) : Outcome :=
  if s.scan.capture.isSome then
    .next (publish (headChanged (raiseSimple .scanAgain (removeEntry 0 .noWeight s))))
  else .next s

/-- CAPTURE_MOTION_RUN (R76): the run of MOTION readings has passed 1,000 ms. -/
def execCaptureMotionRun (s : State) : Outcome :=
  match s.scan.capture with
  | some c =>
    if c.motionSince.isSome && !c.waitPrompt then
      .next (publish (raiseSimple .waitWeight (setCapture { c with waitPrompt := true } s)))
    else .next s
  | none => .next s

/-! ## Samples (R53, R65, R70) -/

/-- A channel's change of state reaches the attention unit and a pending capture (R71, R72, R77): SCALE_STATE and
ATTENTION of the scale's cause are offered before SCAN_REFUSED of the capture that the change ends (DESIGN CHOICE, log
entry 15). -/
def scaleMoves (id : ScaleId) (old : ScaleState) (s : State) : State :=
  let s := scaleChanged id old s
  match id with
  | .w0 => captureFaults old s
  | .w1 => s

/-- The reading of a converted sample is handed to the channel's user (R68, R76, R80). -/
def handReading (id : ScaleId) (old : ScaleState) (s : State) : State :=
  match id with
  | .w0 => if old = .calibrating ∨ old = .nocal then s else captureReading s
  | .w1 => bagReading s

/-- A converter sample arrives (R53 to R70).  Where one sample ends FAULT and, at filter length 1, WARMUP too,
one SCALE_STATE reports the state it ends in (DESIGN CHOICE, log entry 25). -/
def takeSample (id : ScaleId) (r : BitVec 24) (s : State) : State :=
  let c := s.scale id
  let s := s.setScale id (arrive s.now (s.trackingAllowed id) r c)
  publish (handReading id c.state (scaleMoves id c.state s))

/-- CONVERTER_SAMPLE (R53). -/
def execConverterSample (id : ScaleId) (r : BitVec 24) (s : State) : Outcome := .next (takeSample id r s)

/-- Whether a sample's average is the hundredth of a tracking run (R65). -/
def completesRun (id : ScaleId) (r : BitVec 24) (s : State) : Bool :=
  let c := s.scale id
  c.trackRun == 99 && (arrive s.now (s.trackingAllowed id) r { c with trackRun := 98 }).trackRun == 99

/-- ZERO_TRACKING (R65): the sample whose average completes a tracking run. -/
def execZeroTracking (id : ScaleId) (r : BitVec 24) (s : State) : Outcome :=
  if completesRun id r s then .next (takeSample id r s) else .next s

/-- RAIL_FAULT (R70): the sample that is the third rail sample in a row. -/
def execRailFault (id : ScaleId) (r : BitVec 24) (s : State) : Outcome :=
  let c := s.scale id
  if !c.faulted && (arrive s.now (s.trackingAllowed id) r c).faulted then .next (takeSample id r s) else .next s

/-- FAULT_RECOVERY (R70): the sample that brings the recovery count to 10. -/
def execFaultRecovery (id : ScaleId) (r : BitVec 24) (s : State) : Outcome :=
  let c := s.scale id
  if c.faulted && !(arrive s.now (s.trackingAllowed id) r c).faulted then .next (takeSample id r s) else .next s

/-- ABSENCE_TIMER_EXPIRY (R70). -/
def execAbsenceTimerExpiry (id : ScaleId) (s : State) : Outcome :=
  let c := s.scale id
  if c.absenceStart.isSome then .next (publish (scaleMoves id c.state (s.setScale id (absenceExpires s.now c))))
  else .next s

end Sys2Proof.Machine
end

