-- ==== Sys2Proof/Machine/DrawerEvents.lean ====
section
/-! DEFINITION. The meanings of the drawer's events and requests (R119 to R129). -/

namespace Sys2Proof.Machine

/-- A change of drawer state reaches the sale record unit (R21, R130). -/
def drawerMoved (s : State) : State := publish (closeSale s)

/-- Set the debounced switch level (R119). -/
def setSwitch (v : Bool) (s : State) : State :=
  { s with pins := { s.pins with drawerOpen := v }, drawer := { s.drawer with switchOpen := v } }

/-- PENDING_OPEN_PULSE (R125). -/
def execPendingOpenPulse (s : State) : Outcome :=
  match duePulse s with
  | some (n, o) => .next (drawerMoved (beginPulse n o s))
  | none => .next s

/-- PULSE_TIMER_EXPIRY (R120, R122). -/
def execPulseTimerExpiry (s : State) : Outcome :=
  let d := s.drawer
  match d.state with
  | .pulsing =>
    if d.switchOpen then .next (drawerMoved (enterOpen s))
    else .next (drawerMoved (notifyDrawer (setDrawer { d with
      state := .openingWait, pulseDeadline := none, openingDeadline := some (s.deadline 1000) } s)))
  | _ => .next s

/-- OPENING_TIMER_EXPIRY (R121). -/
def execOpeningTimerExpiry (s : State) : Outcome :=
  match s.drawer.state with
  | .openingWait => .next (drawerMoved (pulseFailed s))
  | _ => .next s

/-- SWITCH_SHOWS_OPEN (R119, R121, R122, R123). -/
def execSwitchShowsOpen (s : State) : Outcome :=
  if s.drawer.switchOpen then .next s
  else
    let s := setSwitch true s
    match s.drawer.state with
    | .closed => .next (drawerMoved (enterForced s))
    | .openingWait => .next (drawerMoved (enterOpen s))
    | .jammed => .next (drawerMoved (enterOpen s))
    | _ => .next s

/-- SWITCH_SHOWS_CLOSED (R119, R122). -/
def execSwitchShowsClosed (s : State) : Outcome :=
  if !s.drawer.switchOpen then .next s
  else
    let s := setSwitch false s
    match s.drawer.state with
    | .opened => .next (drawerMoved (enterClosed none s))
    | .overdue => .next (drawerMoved (enterClosed none s))
    | .forced => .next (drawerMoved (enterClosed none s))
    | _ => .next s

/-- OPEN_TIMER_EXPIRY (R122).  PROMPT is offered before DRAWER_STATE (DESIGN CHOICE, log entry 15). -/
def execOpenTimerExpiry (s : State) : Outcome :=
  let d := s.drawer
  if d.state = .opened ∧ d.openDeadline.isSome = true then
    let s := setDrawer { d with state := .overdue, openDeadline := none } s
    .next (drawerMoved (notifyDrawer (raiseSimple .closeDrawer s)))
  else .next s

/-- The outcome of an accepted DRAWER_NO_SALE (R127). -/
def noSaleOutcome (d : DrawerState) : NoSaleOutcome :=
  match d with
  | .pulsing => .pulsing
  | .closed => .deferred
  | _ => .alreadyOpen

/-- Why DRAWER_NO_SALE is refused (R127). -/
def noSaleTest (s : State) : Option Reason :=
  if s.sale.state ≠ .idle then some .state
  else if s.drawer.state.releasing then some .busy
  else if s.drawer.state = .jammed then some .state
  else none

/-- DRAWER_NO_SALE (R127). -/
def drawerNoSaleBody (s : State) : State :=
  match noSaleTest s with
  | some reason => replyRefused .sale .drawerNoSale reason s
  | none =>
    let d := s.drawer
    let s := takeRelease .noSale (setDrawer { d with till := { d.till with noSales := countUp d.till.noSales } } s)
    replyDone .sale .drawerNoSale (.noSale (noSaleOutcome s.drawer.state)) s

def execDrawerNoSale (s : State) : Outcome :=
  .next (publish (onRequest .sale .drawerNoSale (saleRequest .drawerNoSale drawerNoSaleBody) s))

/-- TILL_READ (R129). -/
def tillReadBody (s : State) : State := replyDone .management .tillRead (.till s.drawer.till none) s

def execTillRead (s : State) : Outcome := .next (onRequest .management .tillRead tillReadBody s)

/-- TILL_READ_ZERO (R129). -/
def tillReadZeroBody (s : State) : State :=
  if !s.jobRoom then replyRefused .management .tillReadZero .full s
  else
    let t := s.drawer.till
    let n := s.composer.nextJob
    let s := queueJob .tillReport none none (.tallies t) s
    replyDone .management .tillReadZero (.till t (some n)) (setDrawer { s.drawer with till := ⟨0, 0, 0, 0, 0, 0⟩ } s)

def execTillReadZero (s : State) : Outcome := .next (onRequest .management .tillReadZero tillReadZeroBody s)

end Sys2Proof.Machine
end

