-- ==== Sys2Proof/Machine/Bus.lean ====
section
/-! DEFINITION. The peripheral bus controller (chapter 10): the bus cycle with its status filters and data
handshakes, presence, routing of messages, and the meanings of its events and requests. -/

namespace Sys2Proof.Machine

/-! ## Presence (R180, R181) -/

/-- Queue CHANNEL_STATE (R181). -/
def notifyChannel (ch : ChannelId) (s : State) : State :=
  let c := s.channel ch
  offerNotice (.channel ch) (.channelState ch c.present c.filtered c.abandons) s

/-- The card path and the attention unit are told that their channel is ABSENT (R96, R166). -/
def tellAbsent (ch : ChannelId) (s : State) : State :=
  match ch with
  | 1 => { s with card := { s.card with waiting := [] } }
  | 2 => { s with attention := { s.attention with displayWaiting := none } }
  | _ => s

/-- The card path and the attention unit are told that their channel is PRESENT, and send what they show
(R96, R166). -/
def tellPresent (ch : ChannelId) (s : State) : State :=
  match ch with
  | 1 =>
    let s := sendReadiness s
    match s.card.prompt with
    | some p => offerReader (readerPromptMessage p.kind s) s
    | none => s
  | 2 => sendSlot s
  | _ => s

/-- A channel entering ABSENT (R180).  An abort group that is presented is dropped with the rest (DESIGN CHOICE, log
entry 31). -/
def dropSending (c : Channel) : Channel :=
  { c with present := false, transmit := [], offset := 0, presented := none, cycles := 0, abortOwed := false, abandons := 0 }

/-- Enter ABSENT; a required channel raises PERIPHERAL_ABSENT during a sale (R180, R181). -/
def enterAbsent (ch : ChannelId) (s : State) : State :=
  if s.present ch then
    let s := tellAbsent ch (s.modifyChannel ch dropSending)
    if s.lane.config.requiredChannels.contains ch && s.saleRunning then
      raiseCause .peripheralAbsent 0 (some ch.val) s
    else s
  else s

/-- Enter PRESENT (R180). -/
def enterPresent (ch : ChannelId) (s : State) : State :=
  if s.present ch then s else tellPresent ch (s.modifyChannel ch fun c => { c with present := true })

/-- A channel's filtered inbound status changes (R176, R180, R181).  ATTENTION of PERIPHERAL_ABSENT is offered before
CHANNEL_STATE (DESIGN CHOICE, log entry 15). -/
def statusChanges (ch : ChannelId) (v : BitVec 4) (s : State) : State :=
  let s := s.modifyChannel ch fun c => { c with filtered := v }
  notifyChannel ch (if v = 0 then enterAbsent ch s else enterPresent ch s)

/-! ## Sending (R178) -/

/-- The bytes of a transmit queue's message; a reader message's layout is a free value (R96, log entry 6). -/
def messageBytes : TxMessage → List Byte
  | .bytes b => b
  | .reader m => Config.readerFirstByte m :: (Config.readerFurtherBytes m).take 255

/-- The next group of a channel with `k` DATA slots: an owed abort, or the next bytes of the message in
progress (R178). -/
def nextGroup (k : Nat) (c : Channel) : Option Group :=
  if c.abortOwed then some .abort
  else
    match c.transmit with
    | [] => none
    | m :: _ =>
      let rest := (messageBytes m).drop c.offset
      some (.data (rest.take k) (decide (rest.length ≤ k)))

/-- Present a group where none is presented: P is inverted (R178).  An ABSENT channel presents none. -/
def presentGroup (k : Nat) (c : Channel) : Channel :=
  match c.presented with
  | some _ => c
  | none =>
    if c.present && decide (0 < k) then
      match nextGroup k c with
      | some .abort => { c with presented := some .abort, phase := !c.phase, cycles := 0, abortOwed := false }
      | some g => { c with presented := some g, phase := !c.phase, cycles := 0 }
      | none => c
    else c

/-- The message in progress leaves the transmit queue (R178). -/
def endMessage (c : Channel) : Channel := { c with transmit := c.transmit.drop 1, offset := 0, presented := none, cycles := 0 }

/-- The message in progress is abandoned: by timeout an abort is owed; three abandons in a row make the
channel ABSENT (R178, R180, R181), ATTENTION before CHANNEL_STATE (DESIGN CHOICE, log entry 15). -/
def abandonMessage (ch : ChannelId) (timeout : Bool) (s : State) : State :=
  let s := s.modifyChannel ch fun c =>
    { endMessage c with abandons := min 3 (c.abandons + 1), abortOwed := c.abortOwed || timeout }
  if (s.channel ch).abandons = 3 then notifyChannel ch (enterAbsent ch s) else s

/-- The handshake limit of the presented group has run out (R178). -/
def groupTimesOut (ch : ChannelId) (s : State) : State :=
  match (s.channel ch).presented with
  | some .abort => s.modifyChannel ch fun c => { c with presented := none, cycles := 0 }
  | some (.data _ _) => abandonMessage ch true s
  | none => s

/-- The presented group has been taken (R178). -/
def groupTaken (ch : ChannelId) (s : State) : State :=
  match (s.channel ch).presented with
  | some (.data _ true) => s.modifyChannel ch fun c => { endMessage c with abandons := 0 }
  | some (.data bytes false) =>
    s.modifyChannel ch fun c => { c with presented := none, cycles := 0, offset := c.offset + bytes.length }
  | some .abort => s.modifyChannel ch fun c => { c with presented := none, cycles := 0 }
  | none => s

/-- The presented group has been refused (R178). -/
def groupRefused (ch : ChannelId) (s : State) : State :=
  match (s.channel ch).presented with
  | some .abort => s.modifyChannel ch fun c => { c with presented := none, cycles := 0 }
  | some (.data _ _) => abandonMessage ch false s
  | none => s

/-- The peripheral's echo and refusal reach the presented group in a bus cycle (R178).  The handshake limit is read in
every cycle, so that a CONFIG_WRITE acts on a group already presented (DESIGN CHOICE, log entry 31). -/
def examineAnswer (ch : ChannelId) (echo refuse : Bool) (s : State) : State :=
  let c := s.channel ch
  if c.presented.isNone then s
  else if echo = c.phase then (if refuse then groupRefused ch s else groupTaken ch s)
  else if c.cycles + 1 < s.lane.config.handshakeLimit then s.modifyChannel ch fun c => { c with cycles := c.cycles + 1 }
  else groupTimesOut ch s

/-! ## Receiving (R179) -/

/-- What an up group holds: its valid bytes, whether one of them carries L, and whether it is an abort
(R177). -/
structure UpGroup where
  bytes : List Byte
  last : Bool
  abort : Bool
  empty : Bool
  deriving DecidableEq, Repr

/-- Read the group of a channel's DATA slots (R177). -/
def upGroup (ss : List SlotSignal) : UpGroup where
  bytes := (ss.filter SlotSignal.valid).map SlotSignal.byte
  last := ss.any fun x => x.valid && x.last
  abort := (match ss.getLast? with | some x => x.last | none => false) && !ss.any SlotSignal.valid
  empty := !ss.any fun x => x.valid || x.last

/-- Complete messages held, a third one in the assembling buffer included (R179). -/
def holdComplete (m : List Byte) (c : Channel) : Channel :=
  if c.complete.length < 2 then { c with complete := c.complete ++ [m], assembling := [] }
  else { c with assembling := m, thirdComplete := true }

/-- A new up group is taken (R179, steps 1 to 4); the echo value takes its phase. A group behind a third complete
message is refused (DEDUCED, log entry 31). -/
def takeGroup (g : UpGroup) (phase : Bool) (c : Channel) : Channel :=
  let c := { c with echo := some phase }
  if g.abort then { c with refusing := false, assembling := [], thirdComplete := false }
  else if g.empty then { c with refusing := false }
  else if c.thirdComplete then { c with refusing := true }
  else if Config.messageCapacity < c.assembling.length + g.bytes.length then { c with refusing := true, assembling := [] }
  else
    let m := c.assembling ++ g.bytes
    if g.last then { holdComplete m c with refusing := false, abandons := 0 }
    else { c with refusing := false, assembling := m }

/-- Whether taking a group completes a message (R179). -/
def completes (g : UpGroup) (c : Channel) : Bool :=
  !g.abort && !g.empty && !c.thirdComplete && g.last
    && decide (c.assembling.length + g.bytes.length ≤ Config.messageCapacity)

/-! ## Routing of complete messages (R182) -/

/-- The oldest complete message leaves the receive buffers; a third one moves up (R179). -/
def popComplete (c : Channel) : Channel :=
  if c.thirdComplete then
    { c with complete := c.complete.drop 1 ++ [c.assembling], assembling := [], thirdComplete := false }
  else { c with complete := c.complete.drop 1 }

/-- Whether a channel's oldest message already waits for the link. -/
def State.uplinkWaits (s : State) (ch : ChannelId) : Bool := s.link.waiters.contains (.uplink ch)

/-- A message going up the link is handed on when the outbound queue has room, and else waits (R182). -/
def offerUplink (ch : ChannelId) (m : List Byte) (s : State) : State × Bool :=
  if s.uplinkWaits ch then (s, false)
  else if s.noticeRoom then (pushFrame (.uplink ch m) (s.modifyChannel ch popComplete), true)
  else ({ s with link := { s.link with waiters := s.link.waiters ++ [.uplink ch] } }, false)

/-- A message handed to a block inside the part: a code message, or a reader message (R28, R95, R182). -/
def internalMessage (ch : ChannelId) (m : List Byte) : Option (State → State) :=
  match ch, m with
  | 0, b :: code => if b = 0x43#8 then some (takeScanned code) else none
  | 1, _ => some (takeReader (Config.readerMessageOf m))
  | _, _ => none

/-- Hand on complete messages, oldest first, up to one that waits for the link (R182). -/
def handOn (ch : ChannelId) : Nat → State → State
  | 0, s => s
  | k + 1, s =>
    match (s.channel ch).complete with
    | [] => s
    | m :: _ =>
      match internalMessage ch m with
      | some take => handOn ch k (take (s.modifyChannel ch popComplete))
      | none =>
        match offerUplink ch m s with
        | (s', true) => handOn ch k s'
        | (s', false) => s'

/-- An inbound message completing on an ABSENT channel makes it PRESENT (R180). -/
def presentOnMessage (ch : ChannelId) (s : State) : State :=
  if s.present ch then s else notifyChannel ch (enterPresent ch s)

/-- The peripheral's up group of a bus cycle (R179): the first group after a power-on reset only sets the
echo value. -/
def receiveGroup (ch : ChannelId) (ss : List SlotSignal) (s : State) : State :=
  match ss.head? with
  | none => s
  | some first =>
    let c := s.channel ch
    let g := upGroup ss
    match c.echo with
    | none => s.modifyChannel ch fun c => { c with echo := some first.phase, refusing := false }
    | some e =>
      if first.phase = e then s
      else
        let done := completes g c
        let s := s.modifyChannel ch (takeGroup g first.phase)
        if done then handOn ch 3 (presentOnMessage ch s) else s

/-! ## The bus cycle (R175, R176) -/

/-- The outbound status value of a cycle: a next value goes on the wire once the present one has been sent
for 3 cycles (R176). -/
def sendStatus (c : Channel) : Channel :=
  match c.nextWire with
  | some v =>
    if 3 ≤ c.wireCycles then { c with wire := v, wireCycles := 1, nextWire := none }
    else { c with wireCycles := min 3 (c.wireCycles + 1) }
  | none => { c with wireCycles := min 3 (c.wireCycles + 1) }

/-- The status filter takes the value of a cycle (R176). -/
def filterStatus (v : BitVec 4) (c : Channel) : Channel :=
  if v = c.candidate then { c with run := min 3 (c.run + 1) } else { c with candidate := v, run := 1 }

/-- The byte and flags the part puts into a DATA slot: position `i` of its group of `k` (R177, R178). -/
def dataSignal (ch : ChannelId) (c : Channel) (i k : Nat) : SlotSignal :=
  let content : Option Byte × Bool :=
    match c.presented with
    | some (.data bytes last) =>
      match bytes[i]? with
      | some b => (some b, last && i + 1 == bytes.length)
      | none => (none, false)
    | some .abort => (none, i + 1 == k)
    | none => (none, false)
  { byte := content.1.getD 0
    valid := content.1.isSome
    last := content.2
    phase := i == 0 && c.phase
    echo := i == 0 && c.echo.getD (Config.echoWhileUnset ch)
    refuse := i == 0 && c.refusing }

/-- What the part puts into a slot (R175). -/
def downSignal (s : State) (i : Fin 16) : SlotSignal :=
  match s.bus.slots[i] with
  | .unused => ⟨0, false, false, false, false, false⟩
  | .assigned ch .status => ⟨(s.channel ch).wire.setWidth 8, false, false, false, false, false⟩
  | .assigned ch .data =>
    let slots := dataSlots s.bus.slots ch
    dataSignal ch (s.channel ch) (slots.idxOf i) slots.length

/-- The part sets what it sends in a cycle: outbound status values and groups (R176, R178). -/
def sendCycle (s : State) : State :=
  let s := (List.finRange 5).foldl (fun s ch =>
    s.modifyChannel ch fun c => presentGroup (dataSlots s.bus.slots ch).length (sendStatus c)) s
  { s with bus := { s.bus with down := Vector.ofFn (downSignal s) } }

/-- A channel reads its STATUS slot (R176). -/
def readStatus (up : Vector SlotSignal 16) (ch : ChannelId) (s : State) : State :=
  match statusSlot s.bus.slots ch with
  | none => s
  | some i =>
    let s := s.modifyChannel ch (filterStatus (up[i].byte.setWidth 4))
    let c := s.channel ch
    if c.run = 3 ∧ c.candidate ≠ c.filtered then statusChanges ch c.candidate s else s

/-- A channel reads what its peripheral put into its slots (R176, R178, R179): its STATUS slot, then the answer to the
group it presents, then the new group, so that what a later one makes of the presence (R180) stands (DESIGN CHOICE, log
entry 31: the rules give the three no order within a cycle). -/
def readChannel (up : Vector SlotSignal 16) (s : State) (ch : ChannelId) : State :=
  let s := readStatus up ch s
  let ss := (dataSlots s.bus.slots ch).map fun i => up[i]
  match ss.head? with
  | none => s
  | some first => receiveGroup ch ss (examineAnswer ch first.echo first.refuse s)

/-- BUS_CYCLE (R175 to R182).  The part presents its groups and fills the down slots first, then reads the up
slots of the same cycle, channel by channel (DESIGN CHOICE, log entry 31). -/
def execBusCycle (up : Vector SlotSignal 16) (s : State) : Outcome :=
  .next (publish ((List.finRange 5).foldl (readChannel up) (sendCycle s)))

/-! ## Events of a channel by themselves (R176, R178, R180, R182) -/

/-- INBOUND_STATUS_CHANGE (R176): a value seen in three cycles in a row becomes the filtered value.  A channel
without a STATUS slot receives none (R175; log entry 17). -/
def execInboundStatusChange (ch : ChannelId) (v : BitVec 4) (s : State) : Outcome :=
  if (s.channel ch).filtered = v ∨ (statusSlot s.bus.slots ch).isNone = true then .next s
  else .next (publish (statusChanges ch v (s.modifyChannel ch fun c => { c with candidate := v, run := 3 })))

/-- HANDSHAKE_LIMIT_EXPIRY (R178). -/
def execHandshakeLimitExpiry (ch : ChannelId) (s : State) : Outcome := .next (publish (groupTimesOut ch s))

/-- ABANDON_LIMIT_REACHED (R180, R181): the abandonment that is the third in a row. -/
def execAbandonLimitReached (ch : ChannelId) (s : State) : Outcome :=
  if (s.channel ch).abandons = 2 ∧ (s.channel ch).transmit ≠ [] then .next (publish (abandonMessage ch false s))
  else .next s

/-- UPLINK_MESSAGE_HANDED_ON (R182): the oldest complete message takes the place that has come to it. -/
def execUplinkMessageHandedOn (ch : ChannelId) (s : State) : Outcome :=
  match (s.channel ch).complete with
  | [] => .next s
  | m :: _ =>
    if s.waiterTurn (.uplink ch) then
      let s := { s with link := { s.link with waiters := s.link.waiters.drop 1 } }
      let s := refillQueue (pushFrame (.uplink ch m) (s.modifyChannel ch popComplete))
      .next (publish (handOn ch 3 s))
    else .next s

/-- A whole message of the scanner finds a receive buffer of channel 0, and what can be handed on is (R179, R182). -/
def holdScanner (m : List Byte) (s : State) : State :=
  if Config.messageCapacity < m.length ∨ (s.channel 0).thirdComplete = true then s
  else publish (handOn 0 3 (s.modifyChannel 0 (holdComplete m)))

/-- CODE_MESSAGE (R28, R34, R182): scan intake takes the code at once, unless messages wait on channel 0: then it stands
behind them. -/
def execCodeMessage (code : Text) (s : State) : Outcome :=
  match (s.channel 0).complete with
  | [] => .next (publish (takeScanned code s))
  | _ :: _ => .next (holdScanner (0x43#8 :: code) s)

/-- SCANNER_MESSAGE_UPLINK (R28, R182): a scanner message that is no code message. -/
def execScannerMessageUplink (m : List Byte) (s : State) : Outcome :=
  if m.head? = some 0x43#8 ∨ m = [] then .next s else .next (holdScanner m s)

/-! ## Requests (R175, R181, R182, R183) -/

/-- The channel of an auxiliary frame address (R182). -/
def auxChannel (aux : Fin 3) : ChannelId :=
  match aux with
  | 0 => 2
  | 1 => 3
  | 2 => 4

/-- CHANNEL_FRAME (R182). -/
def channelFrameBody (ch : ChannelId) (payload : List Byte) (s : State) : State :=
  let addr := channelAddress ch
  if payload = [] ∨ Config.messageCapacity < payload.length then replyRefused addr .channelFrame .range s
  else if s.present ch = false ∨ s.hasData ch = false then replyRefused addr .channelFrame .state s
  else if s.transmitRoom ch = false then replyRefused addr .channelFrame .full s
  else replyDone addr .channelFrame .none (joinTransmit ch (.bytes payload) s)

def execChannelFrame (aux : Fin 3) (payload : List Byte) (s : State) : Outcome :=
  .next (onRequest (channelAddress (auxChannel aux)) .channelFrame (channelFrameBody (auxChannel aux) payload) s)

/-- BUS_READ (R181).  A complete message held in the assembling buffer is counted (DEDUCED, log entry 31). -/
def busReadBody (s : State) : State :=
  replyDone .management .busRead (.bus s.bus.slots (s.bus.channels.toList.map fun c =>
    ⟨c.present, c.filtered, c.wire, c.abandons, c.transmit.length, c.complete.length + (if c.thirdComplete then 1 else 0)⟩)) s

def execBusRead (s : State) : Outcome := .next (onRequest .management .busRead busReadBody s)

/-- A slot table entry as stored, or `none` where it is refused with RANGE (R175). -/
def slotOf : SlotWrite → Option Slot
  | .unused => some .unused
  | .assigned ch role =>
    match role with
    | some r => if h : ch < 5 then some (.assigned ⟨ch, h⟩ r) else none
    | none => none

/-- Whether no channel has two STATUS slots or more than 4 DATA slots (R175). -/
def slotsOk (t : Vector Slot 16) : Bool :=
  (List.finRange 5).all fun ch =>
    decide ((t.toList.filter fun x => x == .assigned ch .status).length ≤ 1)
      && decide ((t.toList.filter fun x => x == .assigned ch .data).length ≤ 4)

/-- The table a SLOT_TABLE_WRITE stores, or `none` where it is refused with RANGE (R175). -/
def slotTableOf (w : Vector SlotWrite 16) : Option (Vector Slot 16) :=
  if w.toList.all fun x => (slotOf x).isSome then
    let t := w.map fun x => (slotOf x).getD .unused
    if slotsOk t then some t else none
  else none

/-- The presence a channel takes at a restart from its slots and its filtered status (R183). -/
def restartPresence (t : Vector Slot 16) (ch : ChannelId) (c : Channel) : Bool :=
  if (statusSlot t ch).isSome then c.filtered != 0 else !(dataSlots t ch).isEmpty

/-- A channel restarts as at a lane reset (R183).  An abort group that is presented is dropped, and no new abort is owed
for it; an abort owed stays owed also where the restart leaves the channel ABSENT (DESIGN CHOICE, log entry 31). -/
def restartChannel (t : Vector Slot 16) (ch : ChannelId) (c : Channel) : Channel :=
  { c with
    abortOwed := c.abortOwed || !c.transmit.isEmpty
    transmit := [], offset := 0, presented := none, cycles := 0
    assembling := [], thirdComplete := false, complete := []
    abandons := 0, wire := 0, wireCycles := 0, nextWire := none
    present := restartPresence t ch c }

/-- Every channel restarts (R183); messages waiting for the link are lost. -/
def restartChannels (s : State) : State :=
  let t := s.bus.slots
  let cs := Vector.ofFn fun ch : Fin 5 => restartChannel t ch s.bus.channels[ch]
  { s with bus := { s.bus with channels := cs } }

/-- A waiter that is a channel's message going up. -/
def Waiter.isUplink : Waiter → Bool
  | .uplink _ => true
  | _ => false

/-- The presence taken anew reaches the card path and the attention unit as at any change (R183). -/
def tellPresences (s : State) : State :=
  [(1 : ChannelId), 2].foldl (fun s ch => if s.present ch then tellPresent ch s else tellAbsent ch s) s

/-- Scan intake, the card path and lane management set their outbound status values (R38, R96, R176). -/
def setOwners (s : State) : State :=
  let s := setStatus 1 s.card.light (setStatus 0 (gateCode s.scan.gate) { s with scan := { s.scan with tone := none } })
  if s.lane.ready then setStatus 4 1 (setStatus 3 1 (setStatus 2 1 s)) else s

/-- SLOT_TABLE_WRITE (R175). -/
def slotTableWriteBody (w : Vector SlotWrite 16) (s : State) : State :=
  if s.lane.ready then replyRefused .management .slotTableWrite .state s
  else
    match slotTableOf w with
    | none => replyRefused .management .slotTableWrite .range s
    | some t =>
      let s := restartChannels { s with bus := { s.bus with slots := t } }
      let s := refillQueue { s with link := { s.link with waiters := s.link.waiters.filter fun w => !w.isUplink } }
      let s := tellPresences (setOwners { s with card := { s.card with waiting := [] }, attention := { s.attention with displayWaiting := none } })
      replyDone .management .slotTableWrite (.slots t) s

def execSlotTableWrite (w : Vector SlotWrite 16) (s : State) : Outcome :=
  .next (publish (onRequest .management .slotTableWrite (slotTableWriteBody w) s))

end Sys2Proof.Machine
end

