-- ==== Sys2Proof/Machine/AttentionRequests.lean ====
section
/-! DEFINITION. The meanings of the attention unit's requests and timer (R165, R171, R172, R173). -/

namespace Sys2Proof.Machine

/-- EVENT_PROMPT_EXPIRY (R165): the current event prompt has run its 3,000 ms. -/
def execEventPromptExpiry (s : State) : Outcome :=
  if s.attention.eventDeadline.isSome && currentIsEvent s then .next (publish (fallBack s)) else .next s

/-- ATTENTION_READ (R173). -/
def attentionReadBody (s : State) : State :=
  let a := s.attention
  replyDone .management .attentionRead (.attention (attentionReport s) a.current a.conditions a.rest) s

def execAttentionRead (s : State) : Outcome := .next (onRequest .management .attentionRead attentionReadBody s)

/-- The actions allowed for a cause (R171). -/
def actionAllowed : Cause → ClearAction → Bool
  | .unexpectedItem, a | .bagMismatch, a | .bagTimeout, a => a == .acceptWeight || a == .itemRemoved || a == .baggingOff
  | .ageCheck, a => a == .approved || a == .refused
  | _, a => a == .acknowledge

/-- The line a REFUSED age check voids: the record's line while its sale is current and it is not voided
(R172). -/
def ageLine (s : State) : Option SaleLine :=
  match s.attention.age with
  | some r =>
    if s.sale.state ≠ .idle ∧ s.sale.number = r.sale then
      match lineAt? s.sale.lines r.line with
      | some l => if l.voided then none else some l
      | none => none
    else none
  | none => none

/-- Whether the owning block accepts a clearance (R90, R91, R92, R128, R158, R172). -/
def ownerAccepts (c : Cause) (a : ClearAction) (s : State) : Bool :=
  match c with
  | .unexpectedItem | .bagMismatch | .bagTimeout => bagAllows a s
  | .printerFault => faultGone s.mechanism
  | .ageCheck =>
    if a = .refused then
      match ageLine s with
      | some l => (match voidTest l.number s with | .ok _ => true | .error _ => false)
      | none => true
    else true
  | _ => true

/-- The effect of an accepted clearance on the owning block (R171 step 2); `line` is the line a REFUSED age
check voids. -/
def ownerActs (c : Cause) (a : ClearAction) (line : Option SaleLine) (s : State) : State :=
  match c with
  | .unexpectedItem | .bagMismatch | .bagTimeout => bagAction a s
  | .printerFault => clearFault s
  | .drawerJammed => closeSale (jamCleared s)
  | .ageCheck =>
    match a, line with
    | .refused, some l =>
      let n := s.nextLine
      finishVoid n (applyVoid l s)
    | _, _ => s
  | _ => s

/-- Why a clearance is refused (R171, tests 1 to 4). -/
def clearTest (cause : Option Cause) (action : Option ClearAction) (s : State) : Except Reason (Cause × ClearAction) :=
  match cause, action with
  | some c, some a =>
    if !s.attention.causes.contains c then .error .stale
    else if !actionAllowed c a then .error .state
    else if !ownerAccepts c a s then .error .state
    else .ok (c, a)
  | _, _ => .error .range

/-- An accepted clearance (R171).  The owning block acts while the hold is still set (step 2), and the hold clears after
it (step 3): the rest text follows it, after a line text of the owner (R163), and a pending open that is then due pulses
(R125, R170).  No owner's effect raises a cause or reads the list but for the hold, so the cause is removed at the hold's
step. -/
def acceptClearance (c : Cause) (a : ClearAction) (s : State) : State :=
  let s := removeCause c (ownerActs c a (ageLine s) s)
  let s := notifyAttention (servePendingOpen (refreshRest s))
  replyDone .sale .clearAttention (.cleared s.attention.causes (!s.attention.hold)) s

/-- CLEAR_ATTENTION (R171). -/
def clearAttentionBody (cause : Option Cause) (action : Option ClearAction) (s : State) : State :=
  match clearTest cause action s with
  | .error reason => replyRefused .sale .clearAttention reason s
  | .ok (c, a) => acceptClearance c a s

def execClearAttention (cause : Option Cause) (action : Option ClearAction) (s : State) : Outcome :=
  .next (publish (onRequest .sale .clearAttention (saleRequest .clearAttention (clearAttentionBody cause action)) s))

end Sys2Proof.Machine
end

