-- ==== Sys2Proof/Machine/Management.lean ====
section
/-! DEFINITION. Lane management (R187 to R190): the meanings of its requests. -/

namespace Sys2Proof.Machine

/-! ## Configuration (R188) -/

/-- Replace lane management's state. -/
def setLane (l : Lane) (s : State) : State := { s with lane := l }

/-- The configuration a CONFIG_WRITE stores, or `none` where it is refused with RANGE (R188). -/
def configOf (w : ConfigWrite) : Option LaneConfig :=
  match w.drawerPolicy, w.closeBeforeNext, w.promptsEnabled, w.merchantCopy with
  | some policy, some closeFirst, some prompts, some merchant =>
    if [0, 2, 3].contains w.decimals && 0x20#8 ≤ w.separator && w.separator ≤ 0x7E#8
        && w.requiredChannels.all fun ch => ch ≤ 4 then
      some {
        decimals := w.decimals
        separator := w.separator
        drawerPolicy := policy
        pulseLength := clampNat 20 250 w.pulseLength
        openLimit := clampNat 5 300 w.openLimit
        closeBeforeNext := closeFirst
        bagPct := clampNat 1 20 w.bagPct
        tMin := clampNat 5 100 w.tMin
        unexpected := clampNat 5 200 w.unexpected
        placeLimit := clampNat 1000 60000 w.placeLimit
        bagAttentionLimit := clampNat 5000 120000 w.bagAttentionLimit
        mismatchPromptLimit := clampNat 500 10000 w.mismatchPromptLimit
        mismatchAttentionLimit := clampNat 1000 60000 w.mismatchAttentionLimit
        skipLimit := clampNat 0 9 w.skipLimit
        lookupLimit := clampNat 200 5000 w.lookupLimit
        captureLimit := clampNat 500 10000 w.captureLimit
        paymentLimit := clampNat 10000 120000 w.paymentLimit
        promptsEnabled := prompts
        merchantCopy := merchant
        cardFailureLimit := clampNat 1 9 w.cardFailureLimit
        requiredChannels := (List.finRange 5).filter fun ch => w.requiredChannels.contains ch.val
        handshakeLimit := clampNat 4 255 w.handshakeLimit }
    else none
  | _, _, _, _ => none

/-- CONFIG_WRITE (R188). -/
def configWriteBody (w : ConfigWrite) (s : State) : State :=
  if s.sale.state ≠ .idle then replyRefused .management .configWrite .state s
  else
    match configOf w with
    | none => replyRefused .management .configWrite .range s
    | some c =>
      replyDone .management .configWrite (.config c true) (setLane { s.lane with config := c, written := true } s)

def execConfigWrite (w : ConfigWrite) (s : State) : Outcome :=
  .next (onRequest .management .configWrite (configWriteBody w) s)

/-- CONFIG_READ (R188). -/
def configReadBody (s : State) : State :=
  replyDone .management .configRead (.config s.lane.config s.lane.written) s

def execConfigRead (s : State) : Outcome := .next (onRequest .management .configRead configReadBody s)

/-! ## Lane state (R187, R191) -/

/-- Whether LANE_READY is accepted (R187). -/
def State.mayReady (s : State) : Bool := !s.lane.ready && hasSlot s.bus.slots 0 && s.lane.written

/-- LANE_READY (R187): the lane becomes READY, and the outbound status of channels 2 to 4 becomes 1. -/
def laneReadyBody (s : State) : State :=
  if s.mayReady then
    let s := setStatus 4 1 (setStatus 3 1 (setStatus 2 1 (setLane { s.lane with ready := true } s)))
    replyDone .management .laneReady .none (publish s)
  else replyRefused .management .laneReady .state s

def execLaneReady (s : State) : Outcome := .next (onRequest .management .laneReady laneReadyBody s)

/-- LANE_RESET (R191): answered DONE; the reset takes effect once the reply has been sent. -/
def laneResetBody (s : State) : State :=
  replyDone .management .laneReset .none (setLane { s.lane with reset := .answering } s)

def execLaneReset (s : State) : Outcome := .next (onRequest .management .laneReset laneResetBody s)

/-! ## Date and prompt texts (R189) -/

/-- SET_DATE (R189). -/
def setDateBody (yymm : Nat) (s : State) : State :=
  if monthOk yymm then replyDone .management .setDate .none (setLane { s.lane with date := some yymm } s)
  else replyRefused .management .setDate .range s

def execSetDate (yymm : Nat) (s : State) : Outcome := .next (onRequest .management .setDate (setDateBody yymm) s)

/-- PROMPT_TEXT_WRITE (R189). -/
def promptTextWriteBody (entry : Nat) (line1 line2 : Text) (s : State) : State :=
  if h : entry < 16 then
    if line1.length ≤ 20 ∧ line2.length ≤ 20 then
      replyDone .management .promptTextWrite .none
        (setLane { s.lane with promptTexts := s.lane.promptTexts.set entry (line1, line2) } s)
    else replyRefused .management .promptTextWrite .range s
  else replyRefused .management .promptTextWrite .range s

def execPromptTextWrite (entry : Nat) (line1 line2 : Text) (s : State) : Outcome :=
  .next (onRequest .management .promptTextWrite (promptTextWriteBody entry line1 line2) s)

/-- PROMPT_TEXT_READ (R189). -/
def promptTextReadBody (entry : Nat) (s : State) : State :=
  if h : entry < 16 then
    replyDone .management .promptTextRead (.promptText s.lane.promptTexts[entry].1 s.lane.promptTexts[entry].2) s
  else replyRefused .management .promptTextRead .range s

def execPromptTextRead (entry : Nat) (s : State) : Outcome :=
  .next (onRequest .management .promptTextRead (promptTextReadBody entry) s)

/-! ## STATUS_READ (R190) -/

/-- What a STATUS_READ reports: R190's list, and the change and the cancel pending mark, which R1 has STATUS_READ
report though R190's list has neither (DEDUCED, log entry 30).  In IDLE the change is 0, the receipt state NONE and the
mark clear (R1). -/
def statusReport (s : State) : StatusReport where
  laneReady := s.lane.ready
  written := s.lane.written
  date := s.lane.date
  speed := s.link.speed
  badFrames := s.link.badFrames
  framesQueued := s.link.queue.length
  saleState := s.sale.state
  saleNumber := s.sale.number
  lineCount := s.sale.lines.length
  balance := s.balance
  receipt := if s.sale.state = .idle then .none else s.sale.receipt
  change := if s.sale.state = .idle then 0 else s.sale.change
  cancelPending := s.cancelPending
  scanEntries := s.scan.queue.length
  lookupCodes := s.scan.lookups.length
  w0State := s.w0.state
  w0Zero := s.w0.zeroStatus
  w0Count := s.w0.count
  w1State := s.w1.state
  w1Zero := s.w1.zeroStatus
  w1Count := s.w1.count
  sealOpen := s.pins.sealOpen
  bagState := s.bagging.state
  baseline := s.bagging.baseline
  skips := s.bagging.skips
  session := s.card.session.state
  cardInReader := s.card.session.cardInReader
  failures := s.card.failures
  attempts := s.card.attempts
  drawer := s.drawer.state
  switchOpen := s.drawer.switchOpen
  pendingOpen := s.drawer.pendingOpen
  composing := s.composer.composing
  jobCount := s.composer.jobs.length
  printer := s.mechanism.state
  fault := s.mechanism.fault
  hold := s.attention.hold
  primary := s.attention.causes.head?
  present := s.bus.channels.toList.map Channel.present

/-- STATUS_READ (R190). -/
def statusReadBody (s : State) : State := replyDone .management .statusRead (.status (statusReport s)) s

def execStatusRead (s : State) (sealOpen : Bool := true) : Outcome :=
  .next (onRequest .management .statusRead (fun s => statusReadBody (setSeal sealOpen s)) s)

end Sys2Proof.Machine
end

