-- ==== Sys2Proof/Machine/Resets.lean ====
section
/-! DEFINITION. The two resets (R27, R74, R117, R131, R149, R161, R174, R183, R187, R191). -/

namespace Sys2Proof.Machine

/-- Raise PRINTER_FAULT for a fault latch set at a reset (R161). -/
def raiseResetFault (s : State) : State :=
  match s.mechanism.fault with
  | some k => raisePrinterFault k s
  | none => s

/-! ## Power-on reset (R187) -/

/-- The link speed the straps give (R184). -/
def strapSpeed (p : Pins) : LinkSpeed :=
  match p.firstStrapHigh, p.secondStrapHigh with
  | false, false => .s115200
  | true, false => .s460800
  | _, _ => .s921600

/-- The calibration store a power-on reset finds: a write cut off leaves a check value that fails (R57);
its fields are a free value (log entry 8). -/
def storeAtPowerOn (c : Scale) : CalStore :=
  match c.writing with
  | some r => ⟨Config.tornRecord c.store.record r, false⟩
  | none => c.store

/-- A weighing channel after a power-on reset (R55). -/
def scaleAtPowerOn (store : CalStore) : Scale :=
  { State.resetScale with
    store := store
    work := if store.passes then some store.record else none
    absenceStart := if store.passes then some 0 else none }

/-- The STARTED notice of a power-on reset (R187): both lists are empty. -/
def powerOnStarted (speed : LinkSpeed) (w0 w1 : Scale) : StartedNotice :=
  ⟨Config.partVersion, .powerOn, speed, w0.count, w0.state, w1.count, w1.state, [], none⟩

/-- The part right after a power-on reset with given pins and calibration stores, before its own causes. -/
def powerOnState (p : Pins) (store0 store1 : CalStore) (pending : List Instr) : State :=
  let w0 := scaleAtPowerOn store0
  let w1 := scaleAtPowerOn store1
  let r := State.reset
  { r with
    pending := pending
    pins := p
    link := { r.link with
      speed := strapSpeed p
      queue := [.notice (.started (powerOnStarted (strapSpeed p) w0 w1))] }
    w0 := w0
    w1 := w1
    drawer := drawerReset p.drawerOpen 0 r.lane.config r.drawer.till
    mechanism := mechanismReset p Config.heatDefaults }

/-- POWER_ON_RESET (R187): every block takes its power-on values; the calibration records stay (R55). -/
def execPowerOnReset (p : Pins) (s : State) : Outcome :=
  .next (publish (raiseResetFault (powerOnState p (storeAtPowerOn s.w0) (storeAtPowerOn s.w1) s.pending)))

/-! ## Lane reset (R191) -/

/-- A frame that a lane reset keeps in the outbound queue (R191 step 1). -/
def Frame.keptByReset : Frame → Bool
  | .reply _ => true
  | .notice (.tallyReport _ _ _ _) => true
  | _ => false

/-- Waiting replies take every free place (R191 step 1). -/
def queueReplies : Nat → State → State
  | 0, s => s
  | k + 1, s =>
    match s.link.replies with
    | w :: rest => if s.queueRoom then queueReplies k (takeReply w rest s) else s
    | [] => s

/-- The outbound queue is pruned, and the report the cache waits with is queued where there is room (R50,
R191 step 1). -/
def pruneQueue (s : State) : State :=
  let s := { s with link := { s.link with
    queue := s.link.queue.filter Frame.keptByReset
    waiters := s.link.waiters.filter (· == .cacheReport) } }
  let s := queueReplies Config.outboundCapacity s
  if s.cache.waiting && s.queueRoom then
    sendReport { s with cache := { s.cache with waiting := false }, link := { s.link with waiters := [] } }
  else s

/-- Card tenders of a sale a lane reset discards (R27). -/
def cutTenders (s : State) : List CutTender :=
  if s.saleRunning then
    (cardTenders s.sale.lines).map fun l => ⟨s.sale.number, (match l.card with | some c => c.approval | none => []), l.amount⟩
  else []

/-- The payment a lane reset cuts off (R117). -/
def cutPayment (s : State) : Option CutPayment :=
  match s.card.session.state, s.card.session.payment with
  | .awaitResult, some p => some ⟨s.sale.number, p.attempt, p.tenderIndex, p.requested, false⟩
  | .cancelAsked, some p => some ⟨s.sale.number, p.attempt, p.tenderIndex, p.requested, true⟩
  | _, _ => none

/-- The sale record unit at a lane reset (R27). -/
def saleLaneReset (s : State) : State :=
  let x := { s.sale with claim := none }
  { s with
    lastSale := if x.state = .settled then some x else s.lastSale
    sale := { x with state := .idle, lines := [], receiptSuppressed := false, cancelPending := false } }

/-- The card path at a lane reset (R117). -/
def cardLaneReset (c : CardPath) : CardPath :=
  { c with session := State.resetSession, failures := 0, attempts := 0, light := 1, prompt := none, waiting := [] }

/-- The composer at a lane reset (R149). -/
def composerLaneReset (c : Composer) : Composer :=
  { c with jobs := [], composing := false, continuation := [], todo := [] }

/-- Every block takes its lane reset, at timebase 0 (R191 step 2, 00_scope 4.4). -/
def blocksLaneReset (p : Pins) (s : State) : State :=
  let s := saleLaneReset s
  { s with
    pins := { s.pins with
      drawerOpen := p.drawerOpen, paperPresent := p.paperPresent, paperNearEnd := p.paperNearEnd
      coverClosed := p.coverClosed, cutterHome := p.cutterHome, thermistor := p.thermistor, sealOpen := p.sealOpen }
    now := 0
    lane := { s.lane with ready := false, reset := .none }
    attention := State.reset.attention
    scan := { s.scan with queue := [], lookups := [], capture := none, gate := .disabled, tone := none }
    w0 := laneRestart 0 s.w0
    w1 := laneRestart 0 s.w1
    bagging := State.reset.bagging
    card := cardLaneReset s.card
    drawer := drawerReset p.drawerOpen 0 s.lane.config s.drawer.till
    composer := composerLaneReset s.composer
    mechanism := mechanismReset p s.mechanism.heat }

/-- The STARTED notice of a lane reset: `old` is the state the reset found, `s` the blocks after it
(R187). -/
def laneStarted (old s : State) : StartedNotice :=
  ⟨Config.partVersion, .lane, s.link.speed, s.w0.count, s.w0.state, s.w1.count, s.w1.state, cutTenders old, cutPayment old⟩

/-- A lane reset takes effect (R191).  BAG_CHECK of the check's change comes right after STARTED, before the TALLY_REPORTs
of the cache's remaining work (DESIGN CHOICE, log entry 33). -/
def laneResetState (p : Pins) (old : State) : State :=
  let s := setOwners (restartChannels (blocksLaneReset p (pruneQueue old)))
  let s := offerNotice .management (.started (laneStarted old s)) s
  let s := bagChanged old.bagging.state [] s
  publish (raiseResetFault (cacheGoOn (tellPresences s)))

/-- LANE_RESET_TAKES_EFFECT (R191): once the DONE reply to LANE_RESET has been sent. -/
def execLaneResetTakesEffect (p : Pins) (s : State) : Outcome :=
  if s.lane.reset = .due then .next (laneResetState p s) else .next s

end Sys2Proof.Machine
end

