-- ==== Sys2Proof/Machine/Routing.lean ====
section
/-! DEFINITION. The lane link port (R184, R185, R186): the receiver's phases, the frame check, the routing
of complete frames to the requests' meanings, and the end of an outbound frame. -/

namespace Sys2Proof.Machine

/-! ## The request a command stands for (R185) -/

/-- The address and the meaning of a request; a command that is no request has none (R185). -/
def requestMeaning (c : Instr) : Option (Address × (State → Outcome)) :=
  match c with
  | .laneReset => some (.management, execLaneReset)
  | .configWrite w => some (.management, execConfigWrite w)
  | .configRead => some (.management, execConfigRead)
  | .laneReady => some (.management, execLaneReady)
  | .setDate d => some (.management, execSetDate d)
  | .promptTextWrite e l1 l2 => some (.management, execPromptTextWrite e l1 l2)
  | .promptTextRead e => some (.management, execPromptTextRead e)
  | .heatTableWrite h => some (.management, execHeatTableWrite h)
  | .statusRead v => some (.management, (execStatusRead · v))
  | .slotTableWrite t => some (.management, execSlotTableWrite t)
  | .busRead => some (.management, execBusRead)
  | .rangeRuleWrite n w => some (.management, execRangeRuleWrite n w)
  | .rangeRuleRead => some (.management, execRangeRuleRead)
  | .articleFill code w => some (.management, execArticleFill code w)
  | .articleUpdate code w => some (.management, execArticleUpdate code w)
  | .articlePin code => some (.management, execArticlePin code)
  | .articleUnpin code => some (.management, execArticleUnpin code)
  | .articleProbe code => some (.management, execArticleProbe code)
  | .articleFlush m => some (.management, execArticleFlush m)
  | .tallyPush => some (.management, execTallyPush)
  | .calWrite n w v => some (.management, (execCalWrite n w · v))
  | .calRead n v => some (.management, (execCalRead n · v))
  | .zero n => some (.management, execZero n)
  | .tare n op => some (.management, execTare n op)
  | .weightRead n => some (.management, execWeightRead n)
  | .issuerWrite i w => some (.management, execIssuerWrite i w)
  | .issuerRead i => some (.management, execIssuerRead i)
  | .tillRead => some (.management, execTillRead)
  | .tillReadZero => some (.management, execTillReadZero)
  | .attentionRead => some (.management, execAttentionRead)
  | .keyedCode code q => some (.sale, execKeyedCode code q)
  | .beginPayment => some (.sale, execBeginPayment)
  | .resumeScanning => some (.sale, execResumeScanning)
  | .voidLine n => some (.sale, execVoidLine n)
  | .discount x t l => some (.sale, execDiscount x t l)
  | .cashTender x => some (.sale, execCashTender x)
  | .cancelSale => some (.sale, execCancelSale)
  | .noReceipt => some (.sale, execNoReceipt)
  | .saleRead w i n => some (.sale, execSaleRead w i n)
  | .skipBag => some (.sale, execSkipBag)
  | .clearAttention cause action => some (.sale, execClearAttention cause action)
  | .drawerNoSale => some (.sale, execDrawerNoSale)
  | .paymentResult n a o x code => some (.payment, execPaymentResult n a o x code)
  | .cancelConfirmed n a => some (.payment, execCancelConfirmed n a)
  | .reprint => some (.print, execReprint)
  | .textJob ls => some (.print, execTextJob ls)
  | .segmentJob k => some (.print, execSegmentJob k)
  | .jobList => some (.print, execJobList)
  | .glyphWrite f p rows => some (.print, execGlyphWrite f p rows)
  | .glyphRead f p => some (.print, execGlyphRead f p)
  | .formatWrite k w => some (.print, execFormatWrite k w)
  | .formatRead k => some (.print, execFormatRead k)
  | .cutFeedWrite n => some (.print, execCutFeedWrite n)
  | .templateWrite k n ls => some (.print, execTemplateWrite k n ls)
  | .templateLines k n ls => some (.print, execTemplateLines k n ls)
  | .templateClear => some (.print, execTemplateClear)
  | .scriptWrite k ms => some (.print, execScriptWrite k ms)
  | .scriptRead k => some (.print, execScriptRead k)
  | .resumePrint => some (.print, execResumePrint)
  | .printerRead => some (.print, execPrinterRead)
  | .channelFrame aux payload => some (channelAddress (auxChannel aux), execChannelFrame aux payload)
  | .powerOnReset _ | .laneResetTakesEffect _ | .frameReceived _ _ | .outboundFrameSent | .cacheWorkResumes
  | .calWriteComplete _ | .busCycle _ | .inboundStatusChange _ _ | .handshakeLimitExpiry _ | .abandonLimitReached _
  | .uplinkMessageHandedOn _ | .readerMessageSent | .displayMessageSent | .codeMessage _
  | .scannerMessageUplink _ | .lookupExpiry _ | .headOffered | .toneHoldEnd | .captureTimerExpiry
  | .captureMotionRun | .converterSample _ _ | .zeroTracking _ _ | .railFault _ _ | .absenceTimerExpiry _
  | .faultRecovery _ _ | .placeTimerExpiry | .bagAttentionTimerExpiry | .mismatchPromptTimerExpiry
  | .mismatchAttentionTimerExpiry | .unexpectedTimerExpiry | .cardPresent | .cardData _ | .paymentRequest
  | .cardRemoved | .readError | .keyCancel | .keyOk | .unknownReaderMessage | .paymentDeadlineExpiry
  | .readerPromptExpiry | .pendingOpenPulse | .pulseTimerExpiry | .openingTimerExpiry | .switchShowsOpen
  | .switchShowsClosed | .openTimerExpiry | .compositionStart | .ringElementWritten | .dotLineEnd | .cutEnd
  | .cutJamExpiry _ | .thermistorReading _ | .thermistorOpenFault | .paperPresentChange _
  | .coverClosedChange _ | .paperNearEndChange _ | .eventPromptExpiry | .frameDropped _
  | .cutterHomeChange _ => none

/-! ## Routing of complete frames (R185, R186) -/

/-- The address a byte names (R185). -/
def addressOf (b : Byte) : Address :=
  if b = 0x00#8 then .management
  else if b = 0x01#8 then .sale
  else if b = 0x02#8 then .payment
  else if b = 0x03#8 then .print
  else if b = 0x12#8 then .channel2
  else if b = 0x13#8 then .channel3
  else if b = 0x14#8 then .channel4
  else .other b

/-- The channel frame an address of a peripheral takes (R182, R185). -/
def auxOf : Address → Option (Fin 3)
  | .channel2 => some 0
  | .channel3 => some 1
  | .channel4 => some 2
  | _ => none

/-- A request read from a frame, with the seal input as it stands: the frame does not carry its level. -/
def withSeal (sealOpen : Bool) : Instr → Instr
  | .statusRead _ => .statusRead sealOpen
  | .calWrite n w _ => .calWrite n w sealOpen
  | .calRead n _ => .calRead n sealOpen
  | c => c

/-- Whether a command is a request of an address under a KIND (R185). -/
def isRequestOf (addr : Address) (kind : Byte) (c : Instr) : Bool :=
  match requestName c with
  | some r => r ∈ requestsOf addr && r.kind == kind
  | none => false

/-- What a payload under the KIND of a request is: that request with its fields, or a payload of the wrong length
(R185).  The layouts are a free value (log entry 5); a reading that is no request of the address and KIND counts as none. -/
def readPayload (addr : Address) (byte kind : Byte) (payload : List Byte) : FrameContent :=
  match Config.requestOf byte kind payload with
  | some c => if isRequestOf addr kind c then .request c else .wrongLength
  | none => .wrongLength

/-- What a frame is: no request of its address, by its KIND alone, or a request of it, whose payload may have the wrong
length (R185).  The KIND values of the addresses 00h to 03h are free values (log entry 5). -/
def contentOf (addr : Address) (byte kind : Byte) (payload : List Byte) : FrameContent :=
  if 0x80#8 ≤ kind then .unknownKind
  else
    match addr with
    | .other _ => .unknownKind
    | .management | .sale | .payment | .print =>
      if (requestsOf addr).any (fun r => r.kind == kind) then readPayload addr byte kind payload else .unknownKind
    | .channel2 | .channel3 | .channel4 =>
      match auxOf addr with
      | some aux => if kind = 0x00#8 then .request (.channelFrame aux payload) else .unknownKind
      | none => .unknownKind

/-- The state a meaning that goes on leaves. -/
def afterOutcome (s : State) : Outcome → State
  | .next s' => s'
  | .fault _ => s
  | .refused _ => s

/-- A frame refused with UNKNOWN, or dropped as an overrun while 4 replies wait (R185, R186). -/
def refuseUnknown (addr : Address) (kind : Byte) (s : State) : State :=
  if s.mayWait then refuseFrame addr (.unnamed kind) .unknown s
  else countBadFrame s

/-- A frame with a matching CHECK is routed (R185, R186). -/
def routeFrame (byte kind : Byte) (payload : List Byte) (s : State) : State :=
  let addr := addressOf byte
  match contentOf addr byte kind payload with
  | .unknownKind => refuseUnknown addr kind s
  | .wrongLength => onRequest addr (.unnamed kind) (replyRefused addr (.unnamed kind) .range) s
  | .request c =>
    match requestMeaning (withSeal s.pins.sealOpen c) with
    | some (a, meaning) => if a = addr then afterOutcome s (meaning s) else refuseUnknown addr kind s
    | none => refuseUnknown addr kind s

/-! ## The receiver (R184) -/

/-- The receiver's phase and assembly buffer. -/
def setReceiver (phase : RxPhase) (assembly : List Byte) (s : State) : State :=
  { s with link := { s.link with phase := phase, assembly := assembly } }

/-- A frame in assembly is dropped and counted; the receiver returns to HUNT (R184). -/
def dropFrame (s : State) : State := countBadFrame (setReceiver .hunt [] s)

/-- The LENGTH of a frame in assembly, most significant byte first (R184). -/
def lengthOf : List Byte → Nat
  | hi :: lo :: _ => 256 * hi.toNat + lo.toNat
  | _ => 0

/-- The two CHECK bytes, most significant byte first (R184). -/
def checkOf : List Byte → BitVec 16
  | [hi, lo] => hi ++ lo
  | _ => 0

/-- A complete frame: dropped and counted where its CHECK does not match, else routed (R184). -/
def completeFrame (frame : List Byte) (s : State) : State :=
  let n := lengthOf frame
  let body := frame.drop 2
  let covered := body.take (n + 2)
  let s := setReceiver .hunt [] s
  if frameCheck covered = checkOf (body.drop (n + 2)) then
    match covered with
    | byte :: kind :: payload => routeFrame byte kind payload s
    | _ => s
  else countBadFrame s

/-- Whether a received byte is taken as SYNC (R184; log entry 7 for a missing stop bit). -/
def isSync (b : LineByte) : Bool := b.byte == 0xA5#8 && (b.stopBit || Config.syncWithoutStopBit)

/-- A byte received in phase LENGTH (R184). -/
def lengthByte (b : LineByte) (s : State) : State :=
  let a := s.link.assembly ++ [b.byte]
  if !b.stopBit then dropFrame s
  else if a.length < 2 then setReceiver .length a s
  else if Config.payloadCapacity < lengthOf a then dropFrame s
  else setReceiver .body a s

/-- A byte received in phase BODY: ADDR, KIND, payload and the two CHECK bytes (R184). -/
def bodyByte (b : LineByte) (s : State) : State :=
  let a := s.link.assembly ++ [b.byte]
  if !b.stopBit then dropFrame s
  else if a.length < lengthOf a + 6 then setReceiver .body a s
  else completeFrame a s

/-- A byte received on the lane link (R184). -/
def receiveByte (b : LineByte) (s : State) : State :=
  match s.link.phase with
  | .hunt => if isSync b then setReceiver .length [] s else s
  | .length => lengthByte b s
  | .body => bodyByte b s

/-- Bytes received on the lane link, in order (R184). -/
def receiveBytes (bs : List LineByte) (s : State) : State := bs.foldl (fun s b => receiveByte b s) s

/-- FRAME_RECEIVED (R184, R185): the bytes up to the one that completes a frame, and the seal input's level. -/
def execFrameReceived (bs : List LineByte) (s : State) (sealOpen : Bool := true) : Outcome :=
  .next (receiveBytes bs (setSeal sealOpen s))

/-- FRAME_DROPPED (R184): the bytes up to the one that drops the frame in assembly. -/
def execFrameDropped (bs : List LineByte) (s : State) : Outcome := .next (bs.foldl (fun s b => receiveByte b s) s)

/-! ## The transmitter (R186, R191) -/

/-- Whether a frame is the DONE reply to LANE_RESET (R191). -/
def Frame.isResetReply : Frame → Bool
  | .reply ⟨.management, .laneReset, .done _⟩ => true
  | _ => false

/-- The reply that a lane reset waits for has been sent (R191). -/
def resetReplySent (f : Frame) (s : State) : State :=
  if s.lane.reset = .answering ∧ f.isResetReply = true then setLane { s.lane with reset := .due } s else s

/-- The bytes of a frame have been sent (R185, 11.3). -/
def transmitted (f : Frame) (s : State) : State := { s with link := { s.link with lastSent := f.bytes } }

/-- OUTBOUND_FRAME_SENT (R186): the last CHECK byte of the oldest frame has been sent. -/
def execOutboundFrameSent (s : State) : Outcome :=
  match s.link.queue with
  | [] => .next s
  | f :: _ => .next (resetReplySent f (placeFreed (transmitted f s)))

end Sys2Proof.Machine
end

