-- ==== Sys2Proof/Machine/Idle.lean ====
section
/-! DEFINITION. What the part does with no command waiting (DESIGN CHOICE, log entry 1): the first of its own
pending events in a fixed order, and where none is due, one millisecond of the timebase. -/

namespace Sys2Proof.Machine

/-- Whether the built payment request has the place it waited for (R106). -/
def requestDue (s : State) : Bool :=
  s.card.session.state == .checked && (paymentNotice s).isSome && s.waiterTurn .paymentRequest

/-- The channel whose waiting message has the place it waited for (R182). -/
def uplinkDue (s : State) : Option ChannelId :=
  (List.finRange 5).find? fun ch => !(s.channel ch).complete.isEmpty && s.waiterTurn (.uplink ch)

/-- Whether a held reader message can join its transmit queue (R96). -/
def readerDue (s : State) : Bool := !s.card.waiting.isEmpty && s.present 1 && s.hasData 1 && s.transmitRoom 1

/-- Whether the held display message can join its transmit queue (R166). -/
def displayDue (s : State) : Bool :=
  s.attention.displayWaiting.isSome && s.present 2 && s.hasData 2 && s.transmitRoom 2

/-- Whether the head of the scan queue is due to be offered (R37). -/
def headDue (s : State) : Bool :=
  s.headReady && (match s.scan.queue.head? with | some e => (lineOf e).isSome | none => false)

/-- One millisecond of the timebase (00_scope 4.4). -/
def tick (s : State) : State := { s with now := s.now + 1 }

/-- The part with no command waiting: its first own event that is due, or one millisecond of the timebase
(log entry 1). -/
def idle (s : State) : Outcome :=
  if s.lane.reset = .due then execLaneResetTakesEffect s.pins s
  else if s.cache.waiting && s.waiterTurn .cacheReport then execCacheWorkResumes s
  else if requestDue s then execPaymentRequest s
  else match uplinkDue s with
    | some ch => execUplinkMessageHandedOn ch s
    | none =>
      if readerDue s then execReaderMessageSent s
      else if displayDue s then execDisplayMessageSent s
      else if headDue s then execHeadOffered s
      else if (queuedJob s).isSome then execCompositionStart s
      else if s.elementReady then execRingElementWritten s
      else if pendingOpenDue s then execPendingOpenPulse s
      else .next (tick s)

end Sys2Proof.Machine
end

