-- ==== Sys2Proof/Machine/Dispatch.lean ====
section
/-! DEFINITION. The dispatch: one arm per command of the table, each one call of its meaning. -/

namespace Sys2Proof.Machine

/-- A command's effect on everything but the queue of waiting commands. -/
def exec (i : Instr) (s : State) : Host.Outcome State Fault Refusal :=
  match i with
  | .powerOnReset pins => Sys2Proof.Machine.execPowerOnReset pins s
  | .laneReset => Sys2Proof.Machine.execLaneReset s
  | .laneResetTakesEffect pins => Sys2Proof.Machine.execLaneResetTakesEffect pins s
  | .frameReceived bytes sealOpen => Sys2Proof.Machine.execFrameReceived bytes s sealOpen
  | .outboundFrameSent => Sys2Proof.Machine.execOutboundFrameSent s
  | .configWrite values => Sys2Proof.Machine.execConfigWrite values s
  | .configRead => Sys2Proof.Machine.execConfigRead s
  | .laneReady => Sys2Proof.Machine.execLaneReady s
  | .setDate yymm => Sys2Proof.Machine.execSetDate yymm s
  | .promptTextWrite entry line1 line2 => Sys2Proof.Machine.execPromptTextWrite entry line1 line2 s
  | .promptTextRead entry => Sys2Proof.Machine.execPromptTextRead entry s
  | .heatTableWrite tables => Sys2Proof.Machine.execHeatTableWrite tables s
  | .statusRead sealOpen => Sys2Proof.Machine.execStatusRead s sealOpen
  | .slotTableWrite slots => Sys2Proof.Machine.execSlotTableWrite slots s
  | .busRead => Sys2Proof.Machine.execBusRead s
  | .rangeRuleWrite number rule => Sys2Proof.Machine.execRangeRuleWrite number rule s
  | .rangeRuleRead => Sys2Proof.Machine.execRangeRuleRead s
  | .articleFill code content => Sys2Proof.Machine.execArticleFill code content s
  | .articleUpdate code change => Sys2Proof.Machine.execArticleUpdate code change s
  | .articlePin code => Sys2Proof.Machine.execArticlePin code s
  | .articleUnpin code => Sys2Proof.Machine.execArticleUnpin code s
  | .articleProbe code => Sys2Proof.Machine.execArticleProbe code s
  | .articleFlush mode => Sys2Proof.Machine.execArticleFlush mode s
  | .tallyPush => Sys2Proof.Machine.execTallyPush s
  | .cacheWorkResumes => Sys2Proof.Machine.execCacheWorkResumes s
  | .calWrite channel record sealOpen => Sys2Proof.Machine.execCalWrite channel record s sealOpen
  | .calWriteComplete sealOpen => Sys2Proof.Machine.execCalWriteComplete s sealOpen
  | .calRead channel sealOpen => Sys2Proof.Machine.execCalRead channel s sealOpen
  | .zero channel => Sys2Proof.Machine.execZero channel s
  | .tare channel operation => Sys2Proof.Machine.execTare channel operation s
  | .weightRead channel => Sys2Proof.Machine.execWeightRead channel s
  | .issuerWrite index entry => Sys2Proof.Machine.execIssuerWrite index entry s
  | .issuerRead index => Sys2Proof.Machine.execIssuerRead index s
  | .tillRead => Sys2Proof.Machine.execTillRead s
  | .tillReadZero => Sys2Proof.Machine.execTillReadZero s
  | .attentionRead => Sys2Proof.Machine.execAttentionRead s
  | .keyedCode code quantity => Sys2Proof.Machine.execKeyedCode code quantity s
  | .beginPayment => Sys2Proof.Machine.execBeginPayment s
  | .resumeScanning => Sys2Proof.Machine.execResumeScanning s
  | .voidLine number => Sys2Proof.Machine.execVoidLine number s
  | .discount amount text target => Sys2Proof.Machine.execDiscount amount text target s
  | .cashTender amount => Sys2Proof.Machine.execCashTender amount s
  | .cancelSale => Sys2Proof.Machine.execCancelSale s
  | .noReceipt => Sys2Proof.Machine.execNoReceipt s
  | .saleRead selector first count => Sys2Proof.Machine.execSaleRead selector first count s
  | .skipBag => Sys2Proof.Machine.execSkipBag s
  | .clearAttention cause action => Sys2Proof.Machine.execClearAttention cause action s
  | .drawerNoSale => Sys2Proof.Machine.execDrawerNoSale s
  | .paymentResult sale attempt outcome amount approval => Sys2Proof.Machine.execPaymentResult sale attempt outcome amount approval s
  | .cancelConfirmed sale attempt => Sys2Proof.Machine.execCancelConfirmed sale attempt s
  | .reprint => Sys2Proof.Machine.execReprint s
  | .textJob lines => Sys2Proof.Machine.execTextJob lines s
  | .segmentJob segment => Sys2Proof.Machine.execSegmentJob segment s
  | .jobList => Sys2Proof.Machine.execJobList s
  | .glyphWrite font position rows => Sys2Proof.Machine.execGlyphWrite font position rows s
  | .glyphRead font position => Sys2Proof.Machine.execGlyphRead font position s
  | .formatWrite kind entry => Sys2Proof.Machine.execFormatWrite kind entry s
  | .formatRead kind => Sys2Proof.Machine.execFormatRead kind s
  | .cutFeedWrite length => Sys2Proof.Machine.execCutFeedWrite length s
  | .templateWrite segment lineCount lines => Sys2Proof.Machine.execTemplateWrite segment lineCount lines s
  | .templateLines segment firstLine lines => Sys2Proof.Machine.execTemplateLines segment firstLine lines s
  | .templateClear => Sys2Proof.Machine.execTemplateClear s
  | .scriptWrite script moves => Sys2Proof.Machine.execScriptWrite script moves s
  | .scriptRead script => Sys2Proof.Machine.execScriptRead script s
  | .resumePrint => Sys2Proof.Machine.execResumePrint s
  | .printerRead => Sys2Proof.Machine.execPrinterRead s
  | .channelFrame aux payload => Sys2Proof.Machine.execChannelFrame aux payload s
  | .busCycle up => Sys2Proof.Machine.execBusCycle up s
  | .inboundStatusChange channel value => Sys2Proof.Machine.execInboundStatusChange channel value s
  | .handshakeLimitExpiry channel => Sys2Proof.Machine.execHandshakeLimitExpiry channel s
  | .abandonLimitReached channel => Sys2Proof.Machine.execAbandonLimitReached channel s
  | .uplinkMessageHandedOn channel => Sys2Proof.Machine.execUplinkMessageHandedOn channel s
  | .readerMessageSent => Sys2Proof.Machine.execReaderMessageSent s
  | .displayMessageSent => Sys2Proof.Machine.execDisplayMessageSent s
  | .codeMessage code => Sys2Proof.Machine.execCodeMessage code s
  | .scannerMessageUplink message => Sys2Proof.Machine.execScannerMessageUplink message s
  | .lookupExpiry code => Sys2Proof.Machine.execLookupExpiry code s
  | .headOffered => Sys2Proof.Machine.execHeadOffered s
  | .toneHoldEnd => Sys2Proof.Machine.execToneHoldEnd s
  | .captureTimerExpiry => Sys2Proof.Machine.execCaptureTimerExpiry s
  | .captureMotionRun => Sys2Proof.Machine.execCaptureMotionRun s
  | .converterSample channel sample => Sys2Proof.Machine.execConverterSample channel sample s
  | .zeroTracking channel sample => Sys2Proof.Machine.execZeroTracking channel sample s
  | .railFault channel sample => Sys2Proof.Machine.execRailFault channel sample s
  | .absenceTimerExpiry channel => Sys2Proof.Machine.execAbsenceTimerExpiry channel s
  | .faultRecovery channel sample => Sys2Proof.Machine.execFaultRecovery channel sample s
  | .placeTimerExpiry => Sys2Proof.Machine.execPlaceTimerExpiry s
  | .bagAttentionTimerExpiry => Sys2Proof.Machine.execBagAttentionTimerExpiry s
  | .mismatchPromptTimerExpiry => Sys2Proof.Machine.execMismatchPromptTimerExpiry s
  | .mismatchAttentionTimerExpiry => Sys2Proof.Machine.execMismatchAttentionTimerExpiry s
  | .unexpectedTimerExpiry => Sys2Proof.Machine.execUnexpectedTimerExpiry s
  | .cardPresent => Sys2Proof.Machine.execCardPresent s
  | .cardData data => Sys2Proof.Machine.execCardData data s
  | .paymentRequest => Sys2Proof.Machine.execPaymentRequest s
  | .cardRemoved => Sys2Proof.Machine.execCardRemoved s
  | .readError => Sys2Proof.Machine.execReadError s
  | .keyCancel => Sys2Proof.Machine.execKeyCancel s
  | .keyOk => Sys2Proof.Machine.execKeyOk s
  | .unknownReaderMessage => Sys2Proof.Machine.execUnknownReaderMessage s
  | .paymentDeadlineExpiry => Sys2Proof.Machine.execPaymentDeadlineExpiry s
  | .readerPromptExpiry => Sys2Proof.Machine.execReaderPromptExpiry s
  | .pendingOpenPulse => Sys2Proof.Machine.execPendingOpenPulse s
  | .pulseTimerExpiry => Sys2Proof.Machine.execPulseTimerExpiry s
  | .openingTimerExpiry => Sys2Proof.Machine.execOpeningTimerExpiry s
  | .switchShowsOpen => Sys2Proof.Machine.execSwitchShowsOpen s
  | .switchShowsClosed => Sys2Proof.Machine.execSwitchShowsClosed s
  | .openTimerExpiry => Sys2Proof.Machine.execOpenTimerExpiry s
  | .compositionStart => Sys2Proof.Machine.execCompositionStart s
  | .ringElementWritten => Sys2Proof.Machine.execRingElementWritten s
  | .dotLineEnd => Sys2Proof.Machine.execDotLineEnd s
  | .cutEnd => Sys2Proof.Machine.execCutEnd s
  | .cutJamExpiry cutterHome => Sys2Proof.Machine.execCutJamExpiry cutterHome s
  | .thermistorReading reading => Sys2Proof.Machine.execThermistorReading reading s
  | .thermistorOpenFault => Sys2Proof.Machine.execThermistorOpenFault s
  | .paperPresentChange level => Sys2Proof.Machine.execPaperPresentChange level s
  | .coverClosedChange level => Sys2Proof.Machine.execCoverClosedChange level s
  | .paperNearEndChange level => Sys2Proof.Machine.execPaperNearEndChange level s
  | .eventPromptExpiry => Sys2Proof.Machine.execEventPromptExpiry s
  | .frameDropped bytes => Sys2Proof.Machine.execFrameDropped bytes s
  | .cutterHomeChange level => Sys2Proof.Machine.execCutterHomeChange level s

end Sys2Proof.Machine
end

