-- ==== Sys2Proof/Safety.lean ====
section
/-! DEFINITION. What counts as a safe state of the part, in the terms the statements use: the invariants every
step keeps, and when a reply or a notice has been issued. -/

namespace Sys2Proof.Machine

/-- What other blocks select from the state is what they are shown: the scanner's gate value (R38), the
display's rest text (R163) and the reader's light (R96). -/
def Published (s : State) : Prop :=
  s.scan.gate = s.gateSelection ∧ s.attention.rest = s.restSelection ∧ s.card.light = s.lightSelection

/-- A full account number is held only in PRE_READ, CHECKED and AWAIT_RESULT (R97, R103). -/
def CardDataHeld (s : State) : Prop :=
  s.card.session.full.isSome = true →
    s.card.session.state = .preRead ∨ s.card.session.state = .checked ∨ s.card.session.state = .awaitResult

/-- The cause list holds each cause once, has a primary context exactly while it is not empty, and an age
record exactly while AGE_CHECK is listed (R168, R172). -/
def CausesConsistent (s : State) : Prop :=
  s.attention.causes.Nodup
    ∧ (s.attention.primary.isSome = true ↔ s.attention.causes ≠ [])
    ∧ (s.attention.age.isSome = true ↔ Cause.ageCheck ∈ s.attention.causes)

/-- The queues stay within their sizes: 16 outbound frames (R186), 4 scan entries (R33), 8 print jobs (R132)
and 4 messages of each transmit queue (R182). -/
def WithinCapacity (s : State) : Prop :=
  s.link.queue.length ≤ 16 ∧ s.scan.queue.length ≤ 4 ∧ s.composer.jobs.length ≤ 8
    ∧ ∀ ch : ChannelId, s.bus.channels[ch].transmit.length ≤ 4

/-- Each valid entry of the cache lies in the set its code gives, and the two entries of a set differ in code
(R41).  A placement that still waits, behind its report, goes to the set of its code, whose other way does not
hold that code (R44, R50). -/
def CachePlaced (s : State) : Prop :=
  (∀ (i : Fin 256) (w : Way) (e : CacheEntry), (s.cache.sets[i]).way w = some e →
    e.code % 256 = i.val ∧ ∀ e', (s.cache.sets[i]).way w.other = some e' → e'.code ≠ e.code) ∧
  (∀ (done : List CacheWork) (i : Fin 256) (w : Way) (c : Code) (a : Article) (rest : List CacheWork),
    s.cache.work = done ++ .place i w c a :: rest →
    c % 256 = i.val ∧ (∀ x ∈ done, ∃ j y r, x = .report j y r) ∧
      ∀ e', (s.cache.sets[i]).way w.other = some e' → e'.code ≠ c)

/-- The lines of the sale are at most 120, numbered from 1; no ITEM or WEIGHED line has a negative amount, and the
item total lies in 0 to 99,999,999 (R2, R4).  A VOID line names an earlier ITEM or WEIGHED line, negates its amount
and voids it, and no two VOID lines name the same line (R15).  A captured weight still to become a line is not
negative (R76). -/
def SaleConsistent (s : State) : Prop :=
  let ls := s.sale.lines
  ls.length ≤ 120 ∧ ls.map SaleLine.number = (List.range ls.length).map (· + 1)
    ∧ (∀ l ∈ ls, l.kind.isArticle = true → 0 ≤ l.amount) ∧ 0 ≤ itemTotal ls ∧ itemTotal ls ≤ 99999999
    ∧ (∀ v ∈ ls, v.kind = .void → ∃ l ∈ ls, v.target = some l.number ∧ l.number < v.number
        ∧ l.kind.isArticle = true ∧ l.voided = true ∧ v.amount = -l.amount)
    ∧ ((ls.filter fun l => l.kind == .void).map SaleLine.target).Nodup
    ∧ (∀ e ∈ s.scan.queue, ∀ w, e.weight = some w → 0 ≤ w)

/-- A text of decimal digits (R28). -/
def Digits (t : Text) : Prop := ∀ b ∈ t, 0x30#8 ≤ b ∧ b ≤ 0x39#8

/-- A safe state. -/
def Safe (s : State) : Prop := Published s ∧ CardDataHeld s ∧ CausesConsistent s ∧ WithinCapacity s

/-- A reply stands in the outbound queue or waits for a place in it, held by its owner where 4 replies wait
already (R185, R186; log entry 16). -/
def Issued (r : Reply) (s : State) : Prop :=
  Frame.reply r ∈ s.link.queue ∨ (∃ w ∈ s.link.replies, w.reply = r) ∨ ∃ w ∈ s.link.deferred, w.reply = r

/-- A notice stands in the outbound queue or waits for a place in it (R186). -/
def Notified (n : Notice) (s : State) : Prop :=
  Frame.notice n ∈ s.link.queue ∨ ∃ src, Waiter.notice src n ∈ s.link.waiters

/-- Few enough notices wait that a block's next notices find their place in the line (R186). -/
def FewWaiting (s : State) : Prop := s.link.waiters.length ≤ 8

/-- Outside the link, the channels of the bus, the attention unit, the gate value and tone of the scanner, and
the light, prompt and held messages of the reader, `t` is `s`: the frame of an event that queues frames, sends
messages and status values, and may raise prompts and causes. -/
def Shows (s t : State) : Prop :=
  t = { s with
    link := t.link
    bus := { s.bus with channels := t.bus.channels }
    attention := t.attention
    scan := { s.scan with gate := t.scan.gate, tone := t.scan.tone }
    card := { s.card with light := t.card.light, prompt := t.card.prompt, waiting := t.card.waiting } }

end Sys2Proof.Machine
end

