-- ==== Sys2Proof/Certificates/Slice0/Obligations.lean ====
section
/-! DEFINITION. The statements for the provers, chapter by chapter.  `s.routes a = true` says that a request
reaching address `a` is taken by its owner; `replyDone` and `replyRefused` offer the reply to the outbound
queue (`Obligations.ReplyIsQueuedOrWaits`); `markUnanswered` is the mark the request leaves until its reply is
queued; `publish` refreshes what the scanner, the display and the reader are shown, and changes nothing where
`Published` holds. -/

open Sys2Proof Sys2Proof.Machine

/-! ## The step and the queue -/

/-- A step takes the command at the front of the queue and is its meaning on the rest. -/
def Obligations.StepRunsFrontCommand : Prop :=
  ∀ (c : Instr) (rest : List Instr) (s : State),
    step { s with pending := c :: rest } = exec c { s with pending := rest }

/-- No command stops the part: every one of them has a next state, in every state (the manual gives the part no
condition that stops it), and that state has the queue of waiting commands as it was. -/
def Obligations.EveryCommandGoesOn : Prop :=
  ∀ (c : Instr) (s : State), ∃ t, exec c s = .next t ∧ t.pending = s.pending

/-- With no command waiting and none of the part's own events due, a step is one millisecond of the timebase.
The model's choice (log entry 1). -/
def Obligations.IdleStepCountsOneMillisecond : Prop :=
  ∀ s : State, s.pending = [] → s.lane.reset ≠ .due → s.cache.waiting = false → requestDue s = false →
    uplinkDue s = none → readerDue s = false → displayDue s = false → headDue s = false → queuedJob s = none →
    s.elementReady = false → pendingOpenDue s = false → step s = .next { s with now := s.now + 1 }

/-! ## The invariants -/

/-- Every step keeps what is shown at what is selected: the scanner's gate value, the display's rest text, the
reader's light (R38, R163, R96). -/
def Obligations.StepsKeepSelectionsShown : Prop :=
  ∀ s t : State, Published s → step s = .next t → Published t

/-- Every step keeps full card data to PRE_READ, CHECKED and AWAIT_RESULT (R97, R103). -/
def Obligations.StepsKeepCardDataHeld : Prop :=
  ∀ s t : State, CardDataHeld s → step s = .next t → CardDataHeld t

/-- Every step keeps the cause list free of repeats, with a primary context exactly while it is not empty and
an age record exactly while AGE_CHECK is listed (R168, R169, R172). -/
def Obligations.StepsKeepCausesConsistent : Prop :=
  ∀ s t : State, CausesConsistent s → step s = .next t → CausesConsistent t

/-- Every step keeps the outbound queue, the scan queue, the print job queue and the transmit queues within
their sizes (R33, R132, R182, R186). -/
def Obligations.StepsKeepCapacity : Prop :=
  ∀ s t : State, WithinCapacity s → step s = .next t → WithinCapacity t

/-- The state after reset meets the invariants, those of the cache and of the sale included. -/
def Obligations.ResetIsSafe : Prop := Safe State.reset ∧ CachePlaced State.reset ∧ SaleConsistent State.reset

/-! ## The lane link (chapter 11) -/

/-- The reply of a taken request joins the outbound queue when a place is free that nothing waits for, and its
address is free again; else it waits, and the address stays unanswered (R185, R186).  The model's choice (log entry
16): a waiting notice has a place of its own, and with 4 replies waiting the owner holds its reply. -/
def Obligations.ReplyIsQueuedOrWaits : Prop :=
  ∀ (a : Address) (r : Req) (d : ReplyData) (s : State), a ∉ s.link.unanswered →
    (s.link.replies = [] → s.link.queue.length + s.link.waiters.length < 16 →
      replyDone a r d (markUnanswered a s)
        = { s with link := { s.link with queue := s.link.queue ++ [.reply ⟨a, r, .done d⟩] } }) ∧
    ((s.link.replies ≠ [] ∨ 16 ≤ s.link.queue.length + s.link.waiters.length) → s.link.replies.length < 4 →
      replyDone a r d (markUnanswered a s)
        = { s with link := { s.link with
              unanswered := s.link.unanswered ++ [a], replies := s.link.replies ++ [⟨⟨a, r, .done d⟩, true⟩] } }) ∧
    (4 ≤ s.link.replies.length →
      replyDone a r d (markUnanswered a s)
        = { s with link := { s.link with
              unanswered := s.link.unanswered ++ [a], deferred := s.link.deferred ++ [⟨⟨a, r, .done d⟩, true⟩] } })

/-- A busy address, one with a reply waiting for room included, refuses each of its requests with BUSY, and while 4
replies wait a request is dropped and counted; nothing else changes (R185, R186, R191). -/
def Obligations.BusyAndOverrunRequests : Prop :=
  ∀ (c : Instr) (a : Address) (m : State → Outcome) (s : State), requestMeaning c = some (a, m) → Published s →
    (s.link.replies.length < 4 →
      (s.lane.reset ≠ .none ∨ a ∈ s.link.unanswered ∨ ∃ w ∈ s.link.replies, w.reply.address = a) →
      ∃ r, exec c s = .next (offerReply ⟨⟨a, r, .refused .busy⟩, false⟩ s)) ∧
    (4 ≤ s.link.replies.length →
      exec c s = .next { s with link := { s.link with badFrames := min 65535 (s.link.badFrames + 1) } })

/-- A request on the Sale address whose KIND is not that of one listed there is refused with UNKNOWN in either lane
state; while
the lane is UNCONFIGURED every listed one that is taken is refused with STATE, and a scanned code is refused by
the admission test, with SCAN_REFUSED(state) and no entry in the scan queue (R24, R6).  The model's choice (log entry
18): KEYED_CODE is one of those listed requests, refused with STATE alone, its values not looked at. -/
def Obligations.SaleAddressWhileUnconfigured : Prop :=
  (∀ (kind : Byte) (payload : List Byte) (s : State), s.link.replies.length < 4 →
    (∀ r ∈ requestsOf .sale, r.kind ≠ kind) →
    routeFrame 0x01#8 kind payload s = offerReply ⟨⟨.sale, .unnamed kind, .refused .unknown⟩, false⟩ s) ∧
  (∀ (c : Instr) (m : State → Outcome) (s : State), requestMeaning c = some (.sale, m) → Published s →
    s.lane.ready = false → s.routes .sale = true →
    ∃ r, exec c s = .next (replyRefused .sale r .state (markUnanswered .sale s))) ∧
  (∀ (code : Text) (s : State), s.lane.ready = false → s.bus.channels[(0 : ChannelId)].complete = [] →
    ∃ t, exec (.codeMessage code) s = .next t ∧ t.scan.queue = s.scan.queue ∧ t.sale = s.sale
      ∧ t.link = (offerNotice .scanIntake (.scanRefused .scanner code .state s.saleNumber) s).link)

/-- The last CHECK byte of the oldest frame sent: its place goes to the reply that has waited longest, to the
notice that has waited longest only when no reply waits, and nothing but the link changes, except that the frame
of LANE_RESET's DONE reply makes the reset due (R186, R191).  The bytes sent have the layout of R185: SYNC, LENGTH,
ADDR, KIND, payload and CHECK, with KIND plus 80h and the outcome byte in a reply, and KIND 00h in a message going up.
A KIND and the data after the outcome byte are free values (log entry 5). -/
def Obligations.OldestFrameSent : Prop :=
  ∀ (f : Frame) (rest : List Frame) (s : State), s.link.queue = f :: rest → s.link.queue.length ≤ 16 →
    let resetDue := s.lane.reset = .answering ∧ ∃ d, f = .reply ⟨.management, .laneReset, .done d⟩
    let place : Address → Byte := fun a => match a with
      | .management => 0x00 | .sale => 0x01 | .payment => 0x02 | .print => 0x03
      | .channel2 => 0x12 | .channel3 => 0x13 | .channel4 => 0x14 | .other b => b
    let outcome : Reason → Byte := fun r => match r with
      | .busy => 0x01 | .state => 0x02 | .range => 0x03 | .full => 0x04
      | .unknown => 0x05 | .notFound => 0x06 | .locked => 0x07 | .stale => 0x08
    ∃ t, exec .outboundFrameSent s = .next t
      ∧ (resetDue → t = { s with link := t.link, lane := { s.lane with reset := .due } })
      ∧ (¬ resetDue → t = { s with link := t.link })
      ∧ (∃ (address kind : Byte) (payload : List Byte),
          let n := BitVec.ofNat 16 payload.length
          let check := frameCheck (address :: kind :: payload)
          payload.length ≤ 1024
            ∧ t.link.lastSent = [0xA5#8, n.extractLsb' 8 8, n.extractLsb' 0 8] ++ address :: kind :: payload
                ++ [check.extractLsb' 8 8, check.extractLsb' 0 8]
            ∧ (∀ ch m, f = .uplink ch m → address = 0x10#8 + BitVec.ofNat 8 ch.val ∧ kind = 0x00#8 ∧ payload = m.take 1024)
            ∧ (∀ x, f = .notice x → kind < 0x80#8)
            ∧ (∀ a r d, f = .reply ⟨a, r, .done d⟩ → address = place a ∧ ∃ data, payload = 0x00#8 :: data)
            ∧ (∀ a r x, f = .reply ⟨a, r, .refused x⟩ → address = place a ∧ payload = [outcome x])
            ∧ (∀ a r b, f = .reply ⟨a, r, b⟩ → (r = .channelFrame → kind = 0x80#8)
                ∧ (∀ k, r = .unnamed k → k < 0x80#8 → kind = k + 0x80#8)
                ∧ 0x80#8 ≤ kind))
      ∧ (∀ w ws, s.link.replies = w :: ws → ∃ more, t.link.queue = rest ++ .reply w.reply :: more)
      ∧ (∀ src n ws, s.link.replies = [] → s.link.waiters = .notice src n :: ws →
          ∃ more, t.link.queue = rest ++ .notice n :: more)
      ∧ (s.link.replies = [] → s.link.waiters = [] → t.link.queue = rest)

/-- The receiver takes a whole frame byte by byte from HUNT, A5h in the body included, and routes it when the CHECK
matches: a KIND that is no request of its address is refused with UNKNOWN, whatever the payload, a request of it whose
payload has the wrong length with RANGE, a
channel frame's payload joins its transmit queue or is refused, and any other request runs as its command; while 4
replies wait the frame is counted and dropped.  A frame whose CHECK does not match, whose LENGTH is above 1,024 or that
has a missing stop bit is counted and dropped, and the receiver is in HUNT again (R184, R185, R186, R182).  Which
request a KIND and payload of the addresses 00h to 03h stand for is a free value (log entry 5), and the order of the
tests is the model's choice (log entry 18). -/
def Obligations.FramesReceivedAndDropped : Prop :=
  ∀ (byte kind : Byte) (payload : List Byte) (v : Bool) (s : State), s.link.phase = .hunt → payload.length ≤ 1024 →
    let covered : List Byte := byte :: kind :: payload
    let n := BitVec.ofNat 16 payload.length
    let head : List Byte := [0xA5#8, n.extractLsb' 8 8, n.extractLsb' 0 8]
    let stopped (bs : List Byte) : List LineByte := bs.map fun b => ⟨b, true⟩
    let idle : State := { s with link := { s.link with assembly := [] } }
    let counted (x : State) : State := { x with link := { x.link with badFrames := min 65535 (s.link.badFrames + 1) } }
    let taken : State := { idle with pins := { s.pins with sealOpen := v } }
    let received (t : State) := exec (.frameReceived (stopped (head ++ covered
      ++ [(frameCheck covered).extractLsb' 8 8, (frameCheck covered).extractLsb' 0 8])) v) s = .next t
    let address := addressOf byte
    let content := contentOf address byte kind payload
    let room := s.link.replies.length < 4
    (0x80#8 ≤ kind ∨ byte ∉ [0x00#8, 0x01#8, 0x02#8, 0x03#8, 0x12#8, 0x13#8, 0x14#8]
      ∨ byte ∈ [0x12#8, 0x13#8, 0x14#8] ∧ kind ≠ 0x00#8 → content = .unknownKind) ∧
    (byte ∈ [0x00#8, 0x01#8, 0x02#8, 0x03#8] →
      (content = .unknownKind ↔ ∀ r ∈ requestsOf address, r.kind ≠ kind)
        ∧ ∀ c, content = .request c → ∃ r ∈ requestsOf address, r.kind = kind ∧ requestName c = some r) ∧
    (content = .unknownKind →
      (room → received (offerReply ⟨⟨address, .unnamed kind, .refused .unknown⟩, false⟩ taken))
        ∧ (¬ room → received (counted taken))) ∧
    (content = .wrongLength → s.routes address = true →
      received (replyRefused address (.unnamed kind) .range (markUnanswered address taken))) ∧
    (∀ c m, content = .request c → requestMeaning (withSeal v c) = some (address, m) →
      ∃ t, received t ∧ exec (withSeal v c) taken = .next t) ∧
    (∀ aux : Fin 3, byte = 0x12#8 + BitVec.ofNat 8 aux.val → kind = 0x00#8 →
      let ch : ChannelId := ⟨aux.val + 2, by omega⟩
      let a : Address := match aux with | 0 => .channel2 | 1 => .channel3 | 2 => .channel4
      let c := s.bus.channels[ch]
      let marked := markUnanswered a taken
      let served := c.present = true ∧ ∃ i : Fin 16, s.bus.slots[i] = .assigned ch .data
      let sized := payload ≠ [] ∧ payload.length ≤ 256
      let joined := s.bus.channels.set ch { c with transmit := c.transmit ++ [.bytes payload] }
      (¬ room → received (counted taken)) ∧
      (room → (s.lane.reset ≠ .none ∨ a ∈ s.link.unanswered ∨ ∃ w ∈ s.link.replies, w.reply.address = a) →
        received (offerReply ⟨⟨a, .channelFrame, .refused .busy⟩, false⟩ taken)) ∧
      (s.routes a = true →
        (¬ sized → received (replyRefused a .channelFrame .range marked)) ∧
        (sized → ¬ served → received (replyRefused a .channelFrame .state marked)) ∧
        (sized → served → 4 ≤ c.transmit.length → received (replyRefused a .channelFrame .full marked)) ∧
        (sized → served → c.transmit.length < 4 → received (replyDone a .channelFrame .none
          { marked with bus := { s.bus with channels := joined } })))) ∧
    (∀ hi lo : Byte, hi ++ lo ≠ frameCheck covered →
      exec (.frameDropped (stopped (head ++ covered ++ [hi, lo]))) s = .next (counted idle)) ∧
    (∀ hi lo : Byte, 1024 < (hi ++ lo).toNat →
      exec (.frameDropped (stopped [0xA5#8, hi, lo])) s = .next (counted idle)) ∧
    (∀ bs : List Byte, ∀ b : Byte, bs <+: covered →
      exec (.frameDropped (stopped (head ++ bs) ++ [⟨b, false⟩])) s = .next (counted idle))

/-! ## Lane management (chapter 11) -/

/-- The reads of the Management and Print addresses: each is answered DONE with what it asks for, and changes
nothing else; STATUS_READ takes the seal input's level as it is read (R29, R101, R129, R135, R139, R142, R144, R160,
R173, R181, R188, R189, R190; the level is an operand of the command, log entry 2).  That BUS_READ counts a third complete
message, held in the assembling buffer, is the model's reading of R181 (log entry 31). -/
def Obligations.ReadsAnswerAndChangeNothing : Prop :=
  (∀ s : State, s.routes .management = true →
    exec .configRead s = .next (replyDone .management .configRead (.config s.lane.config s.lane.written) (markUnanswered .management s)) ∧
    (∀ v : Bool, let x := markUnanswered .management { s with pins := { s.pins with sealOpen := v } }
      exec (.statusRead v) s = .next (replyDone .management .statusRead (.status (statusReport x)) x)) ∧
    exec .busRead s = .next (replyDone .management .busRead (.bus s.bus.slots (s.bus.channels.toList.map fun c =>
      ⟨c.present, c.filtered, c.wire, c.abandons, c.transmit.length, c.complete.length + (if c.thirdComplete then 1 else 0)⟩))
      (markUnanswered .management s)) ∧
    exec .rangeRuleRead s = .next (replyDone .management .rangeRuleRead (.rules s.scan.rules) (markUnanswered .management s)) ∧
    exec .tillRead s = .next (replyDone .management .tillRead (.till s.drawer.till none) (markUnanswered .management s)) ∧
    exec .attentionRead s = .next (replyDone .management .attentionRead
      (.attention ⟨s.attention.causes, s.attention.primary, s.attention.age, !s.attention.causes.isEmpty⟩
        s.attention.current s.attention.conditions s.attention.rest) (markUnanswered .management s)) ∧
    (∀ i : Fin 64, exec (.issuerRead i) s
      = .next (replyDone .management .issuerRead (.issuer s.card.issuers[i]) (markUnanswered .management s)))) ∧
  (∀ s : State, s.routes .print = true →
    exec .jobList s = .next (replyDone .print .jobList (.jobs s.composer.composing s.composer.nextJob
      (640 - s.composer.freeMark) (s.composer.jobs.map fun j => ⟨j.number, j.kind, j.state, j.saleNumber, j.templateMissing⟩))
      (markUnanswered .print s)) ∧
    exec .printerRead s = .next (replyDone .print .printerRead (.printer (printerReport s.mechanism) s.mechanism.hot
      s.mechanism.stopped s.mechanism.repeatCut s.mechanism.heat) (markUnanswered .print s)) ∧
    (∀ k : RowKind, exec (.formatRead (some k)) s = .next (replyDone .print .formatRead
      (.formatRead s.composer.formats[kindIndex k] s.composer.feedToCut) (markUnanswered .print s))) ∧
    (∀ i : Fin 4, exec (.scriptRead i) s
      = .next (replyDone .print .scriptRead (.script s.composer.scripts[i]) (markUnanswered .print s))) ∧
    (∀ (f : Font) (i : Fin 128), exec (.glyphRead (some f) (0x20#8 + BitVec.ofNat 8 i)) s
      = .next (replyDone .print .glyphRead
          (match (s.composer.glyphs f)[i] with
            | some rows => .glyph rows true
            | none => .glyph (List.replicate (match f with | .a => 24 | .b => 17) 0) false) (markUnanswered .print s))))

/-- CONFIG_WRITE: STATE unless the sale is IDLE, in either lane state; RANGE, with the record unchanged, for an
enumerated value, separator or channel outside its values; else each number is clamped to its range, the record
is replaced, the written mark set, and the reply carries the values as stored (R188). -/
def Obligations.ConfigWriteClampsOrRefuses : Prop :=
  ∀ (w : ConfigWrite) (s : State), s.routes .management = true →
    let taken := markUnanswered .management s
    let valid := (w.decimals = 0 ∨ w.decimals = 2 ∨ w.decimals = 3) ∧ w.drawerPolicy.isSome = true
      ∧ w.closeBeforeNext.isSome = true ∧ w.promptsEnabled.isSome = true ∧ w.merchantCopy.isSome = true
      ∧ (0x20#8 ≤ w.separator ∧ w.separator ≤ 0x7E#8) ∧ ∀ ch ∈ w.requiredChannels, ch ≤ 4
    (s.sale.state ≠ .idle → exec (.configWrite w) s = .next (replyRefused .management .configWrite .state taken)) ∧
    (s.sale.state = .idle → ¬ valid →
      exec (.configWrite w) s = .next (replyRefused .management .configWrite .range taken)) ∧
    (s.sale.state = .idle → valid → ∃ c : LaneConfig,
      exec (.configWrite w) s = .next (replyDone .management .configWrite (.config c true)
        { taken with lane := { s.lane with config := c, written := true } })
      ∧ c.decimals = w.decimals ∧ c.separator = w.separator ∧ some c.drawerPolicy = w.drawerPolicy
      ∧ some c.closeBeforeNext = w.closeBeforeNext ∧ some c.promptsEnabled = w.promptsEnabled
      ∧ some c.merchantCopy = w.merchantCopy ∧ (∀ ch : Fin 5, ch ∈ c.requiredChannels ↔ ch.val ∈ w.requiredChannels)
      ∧ c.pulseLength = max 20 (min 250 w.pulseLength) ∧ c.openLimit = max 5 (min 300 w.openLimit)
      ∧ c.bagPct = max 1 (min 20 w.bagPct) ∧ c.tMin = max 5 (min 100 w.tMin) ∧ c.unexpected = max 5 (min 200 w.unexpected)
      ∧ c.placeLimit = max 1000 (min 60000 w.placeLimit) ∧ c.bagAttentionLimit = max 5000 (min 120000 w.bagAttentionLimit)
      ∧ c.mismatchPromptLimit = max 500 (min 10000 w.mismatchPromptLimit)
      ∧ c.mismatchAttentionLimit = max 1000 (min 60000 w.mismatchAttentionLimit)
      ∧ c.skipLimit = min 9 w.skipLimit ∧ c.lookupLimit = max 200 (min 5000 w.lookupLimit)
      ∧ c.captureLimit = max 500 (min 10000 w.captureLimit) ∧ c.paymentLimit = max 10000 (min 120000 w.paymentLimit)
      ∧ c.cardFailureLimit = max 1 (min 9 w.cardFailureLimit) ∧ c.handshakeLimit = max 4 (min 255 w.handshakeLimit))

/-- SET_DATE, PROMPT_TEXT_WRITE, PROMPT_TEXT_READ and HEAT_TABLE_WRITE are taken in any lane, sale and printer
state: each is refused with RANGE where a value is outside what it takes, and else writes its table alone and is
answered DONE.  New heat tables set the band anew, and the hot latch follows it; the mechanism's other fields stay,
but that a change of the hot latch may start the next element or clear the history (R150 to R153, R189). -/
def Obligations.DateTextsAndHeatTables : Prop :=
  (∀ (d : Nat) (s : State), s.routes .management = true →
    exec (.setDate d) s = .next (if 1 ≤ d % 100 ∧ d % 100 ≤ 12
      then replyDone .management .setDate .none { markUnanswered .management s with lane := { s.lane with date := some d } }
      else replyRefused .management .setDate .range (markUnanswered .management s))) ∧
  (∀ (n : Nat) (l1 l2 : Text) (s : State), s.routes .management = true →
    (∀ h : n < 16, l1.length ≤ 20 → l2.length ≤ 20 →
      exec (.promptTextWrite n l1 l2) s = .next (replyDone .management .promptTextWrite .none
        { markUnanswered .management s with lane := { s.lane with promptTexts := s.lane.promptTexts.set n (l1, l2) } })) ∧
    (16 ≤ n ∨ 20 < l1.length ∨ 20 < l2.length →
      exec (.promptTextWrite n l1 l2) s
        = .next (replyRefused .management .promptTextWrite .range (markUnanswered .management s))) ∧
    (∀ h : n < 16, exec (.promptTextRead n) s = .next (replyDone .management .promptTextRead
      (.promptText s.lane.promptTexts[n].1 s.lane.promptTexts[n].2) (markUnanswered .management s))) ∧
    (16 ≤ n → exec (.promptTextRead n) s
      = .next (replyRefused .management .promptTextRead .range (markUnanswered .management s)))) ∧
  (∀ (h : HeatTables) (s : State), s.routes .management = true → Published s →
    let ts := h.thresholds.map fun t => max (-40) (min 150 t)
    let stored : HeatTables := ⟨ts, h.baseTimes.map fun b => max 100 (min 2000 b), h.factors.map fun f => max 8 (min 32 f),
      max 64 (min 576 h.dotLimit)⟩
    (ts.toList.Pairwise (· < ·) → ∃ t, exec (.heatTableWrite h) s = .next t
      ∧ t = { s with link := t.link, mechanism := t.mechanism }
      ∧ t.mechanism.heat = stored ∧ t.mechanism.temperature = s.mechanism.temperature
      ∧ t.mechanism.band = s.mechanism.temperature.map (fun x => (ts.toList.filter (· ≤ x)).length)
      ∧ (t.mechanism.band = some 7 → t.mechanism.hot = true)
      ∧ (∀ b, t.mechanism.band = some b → b ≤ 5 → t.mechanism.hot = false)
      ∧ (t.mechanism.band = some 6 ∨ t.mechanism.band = none → t.mechanism.hot = s.mechanism.hot)
      ∧ t.mechanism = { s.mechanism with
          heat := stored, band := t.mechanism.band, hot := t.mechanism.hot, inProgress := t.mechanism.inProgress
          previous := t.mechanism.previous, beforePrevious := t.mechanism.beforePrevious }
      ∧ (s.mechanism.inProgress.isSome = true
          ∨ (t.mechanism.hot = s.mechanism.hot ∧ s.mechanism.state ≠ .printing) →
          t.mechanism.inProgress = s.mechanism.inProgress ∧ t.mechanism.previous = s.mechanism.previous
            ∧ t.mechanism.beforePrevious = s.mechanism.beforePrevious)
      ∧ Issued ⟨.management, .heatTableWrite, .done (.heat stored)⟩ t) ∧
    (¬ ts.toList.Pairwise (· < ·) → exec (.heatTableWrite h) s
      = .next (replyRefused .management .heatTableWrite .range (markUnanswered .management s))))

/-- LANE_READY: refused with STATE in READY, with no slot for channel 0, or before any accepted CONFIG_WRITE; else
the lane becomes READY, the outbound status of channels 2 to 4 becomes 1, the gate, the rest text and the light
follow, and no cause is raised (R187). -/
def Obligations.LaneReadyOpensTheLane : Prop :=
  ∀ s : State, s.routes .management = true → Published s →
    (s.lane.ready = true ∨ s.lane.written = false ∨ (∀ r, Slot.assigned 0 r ∉ s.bus.slots.toList) →
      exec .laneReady s = .next (replyRefused .management .laneReady .state (markUnanswered .management s))) ∧
    (s.lane.ready = false → s.lane.written = true → (∃ r, Slot.assigned 0 r ∈ s.bus.slots.toList) →
      ∃ t, exec .laneReady s = .next t ∧ t.lane = { s.lane with ready := true } ∧ Published t
        ∧ t.bus.channels[(2 : Fin 5)].nextWire = some 1 ∧ t.bus.channels[(3 : Fin 5)].nextWire = some 1
        ∧ t.bus.channels[(4 : Fin 5)].nextWire = some 1
        ∧ t.attention.causes = s.attention.causes ∧ t.sale = s.sale ∧ t.card.session = s.card.session
        ∧ t.scan.queue = s.scan.queue
        ∧ Issued ⟨.management, .laneReady, .done .none⟩ t)

/-- LANE_RESET is answered DONE in any lane and sale state, and its reset waits for that reply to be sent; when it
takes effect the lane is UNCONFIGURED, the sale is discarded, or kept as the last sale when it was SETTLED, card
data is erased, the jobs, causes and prompts are gone, every channel restarts, and the tables, the counts and the zero
references are kept.  The outbound queue keeps its replies and TALLY_REPORTs, the waiting replies follow, and STARTED with
the card tenders and the payment that the reset cuts off stands behind them; a bagging check that was not SUSPENDED reports
its change by BAG_CHECK, and a fault found at the reset raises PRINTER_FAULT (R27, R74, R94, R117, R131, R149, R161, R174,
R183, R187, R191).  That an abort owed stays owed by a channel left ABSENT, and that one presented is dropped, is the
model's choice (log entry 31). -/
def Obligations.LaneResetTakesEffect : Prop :=
  (∀ s : State, s.routes .management = true → exec .laneReset s = .next (replyDone .management .laneReset .none
      { markUnanswered .management s with lane := { s.lane with reset := .answering } })) ∧
  (∀ (p : Pins) (s : State), s.lane.reset = .due →
    let kept : List Frame := s.link.queue.filter fun f => match f with
      | .reply _ => true
      | .notice (.tallyReport _ _ _ _) => true
      | _ => false
    let tenders : List CutTender := match s.sale.state with
      | .opened | .paying => (s.sale.lines.filter fun l => l.kind == .cardTender).map fun l =>
          ⟨s.sale.number, match l.card with | some c => c.approval | none => [], l.amount⟩
      | _ => []
    let payment : Option CutPayment := match s.card.session.state with
      | .awaitResult => s.card.session.payment.map fun x => ⟨s.sale.number, x.attempt, x.tenderIndex, x.requested, false⟩
      | .cancelAsked => s.card.session.payment.map fun x => ⟨s.sale.number, x.attempt, x.tenderIndex, x.requested, true⟩
      | _ => none
    ∃ t, exec (.laneResetTakesEffect p) s = .next t
      ∧ t.lane = { s.lane with ready := false, reset := .none } ∧ t.now = 0
      ∧ (let started : StartedNotice := ⟨Config.partVersion, .lane, s.link.speed, s.w0.count, t.w0.state, s.w1.count, t.w1.state,
            tenders, payment⟩
        Notified (.started started) t
          ∧ (s.cache.waiting = false → Waiter.cacheReport ∉ s.link.waiters → s.link.deferred = [] →
              kept.length + s.link.replies.length < 16 → ∃ more,
              t.link.queue = kept ++ s.link.replies.map (fun w => .reply w.reply) ++ .notice (.started started) :: more))
      ∧ (∀ r, Issued r s → Issued r t) ∧ t.link.speed = s.link.speed
      ∧ t.sale.state = .idle ∧ t.sale.lines = [] ∧ t.sale.number = s.sale.number ∧ t.sale.cancelPending = false
      ∧ t.sale.receiptSuppressed = false
      ∧ (s.sale.state ≠ .settled → t.lastSale = s.lastSale)
      ∧ (s.sale.state = .settled → t.lastSale.map (fun x => (x.number, x.lines)) = some (s.sale.number, s.sale.lines))
      ∧ t.card.session = ⟨.noCard, none, false, none, none, none, none⟩ ∧ t.card.failures = 0 ∧ t.card.attempts = 0
      ∧ t.card.issuers = s.card.issuers ∧ t.card.light = 1 ∧ t.card.prompt = none
      ∧ t.attention.current = none ∧ t.attention.conditions = [] ∧ t.attention.eventDeadline = none ∧ t.attention.age = none
      ∧ t.attention.rest = .closed
      ∧ t.attention.causes = (if p.thermistor = none ∨ p.cutterHome = false then [.printerFault] else [])
      ∧ t.attention.primary = (if p.thermistor = none then some ⟨0, 0, 0, some 2, false⟩
          else if p.cutterHome = false then some ⟨0, 0, 0, some 1, false⟩ else none)
      ∧ t.scan.queue = [] ∧ t.scan.lookups = [] ∧ t.scan.capture = none ∧ t.scan.rules = s.scan.rules
      ∧ t.scan.gate = .disabled ∧ t.scan.tone = none
      ∧ (s.cache.work = [] → t.cache.sets = s.cache.sets)
      ∧ (∀ id, (t.scale id).store = (s.scale id).store ∧ (t.scale id).zero = (s.scale id).zero
          ∧ (t.scale id).zeroInit = (s.scale id).zeroInit ∧ (t.scale id).zeroStatus = (s.scale id).zeroStatus
          ∧ (t.scale id).tare = 0 ∧ (t.scale id).history = [] ∧ (t.scale id).window = [])
      ∧ t.bagging.state = .suspended ∧ t.bagging.baseline = none
      ∧ (s.bagging.state ≠ .suspended → Notified (.bagCheck ⟨.suspended, none, none, none, 0, []⟩) t)
      ∧ t.drawer.till = s.drawer.till ∧ t.drawer.pendingOpen = false
      ∧ t.drawer.state = (if p.drawerOpen then .opened else .closed)
      ∧ t.composer = { s.composer with jobs := [], composing := false, continuation := [], todo := [] }
      ∧ t.mechanism.ring = [] ∧ t.mechanism.heat = s.mechanism.heat ∧ t.mechanism.stopped = (!p.paperPresent || !p.coverClosed)
      ∧ t.mechanism.fault = (if p.thermistor = none then some .thermistorOpen else if p.cutterHome then none else some .cutterJam)
      ∧ (∀ ch : ChannelId,
          let c := s.bus.channels[ch]
          let d := t.bus.channels[ch]
          d.phase = c.phase ∧ d.echo = c.echo ∧ d.filtered = c.filtered ∧ d.wire = 0 ∧ d.abandons = 0
            ∧ d.complete = [] ∧ d.assembling = [] ∧ d.presented = none
            ∧ (d.present = true ↔ (if ∃ i : Fin 16, s.bus.slots[i] = .assigned ch .status then c.filtered ≠ 0
                else ∃ i : Fin 16, s.bus.slots[i] = .assigned ch .data))
            ∧ (d.abortOwed = true ↔ c.abortOwed = true ∨ c.transmit ≠ []) ∧ (ch ≠ 1 → ch ≠ 2 → d.transmit = [])
            ∧ d.nextWire = (if ch = 0 ∨ ch = 1 then some 1 else none))
      ∧ t.bus.slots = s.bus.slots ∧ t.link.badFrames = s.link.badFrames ∧ t.link.phase = s.link.phase
      ∧ t.link.assembly = s.link.assembly)

/-- POWER_ON_RESET from any state: every block is at its power-on values, only the calibration records are kept,
a record cut off while it was written fails its check, and STARTED with the part's version, reset kind POWER_ON and
empty lists is the first frame queued (R55, R57, R161, R184, R187, R188). -/
def Obligations.PowerOnResetValues : Prop :=
  ∀ (p : Pins) (s : State), ∃ t, exec (.powerOnReset p) s = .next t
    ∧ t.lane = ⟨false, Config.laneDefaults, false, none, Vector.replicate 16 ([], []), .none⟩ ∧ t.now = 0 ∧ t.pins = p
    ∧ t.link.badFrames = 0 ∧ t.link.replies = [] ∧ t.link.unanswered = []
    ∧ t.link.speed = (if p.firstStrapHigh then (if p.secondStrapHigh then .s921600 else .s460800)
        else (if p.secondStrapHigh then .s921600 else .s115200))
    ∧ (∃ more, t.link.queue = .notice (.started ⟨Config.partVersion, .powerOn, t.link.speed, t.w0.count, t.w0.state, t.w1.count, t.w1.state, [], none⟩) :: more)
    ∧ t.sale.state = .idle ∧ t.sale.number = 0 ∧ t.sale.lines = [] ∧ t.lastSale = none
    ∧ t.scan.queue = [] ∧ t.scan.lookups = [] ∧ (∀ i : Fin 4, t.scan.rules[i].enabled = false)
    ∧ (∀ i : Fin 256, t.cache.sets[i].way0 = none ∧ t.cache.sets[i].way1 = none)
    ∧ (∀ id, (t.scale id).zeroStatus = .pending ∧ (t.scale id).tare = 0 ∧ (t.scale id).zero = none
        ∧ ((s.scale id).writing = none → (t.scale id).store = (s.scale id).store)
        ∧ ((s.scale id).writing ≠ none → (t.scale id).store.passes = false)
        ∧ (t.scale id).work = (if (t.scale id).store.passes then some (t.scale id).store.record else none))
    ∧ t.bagging.state = .suspended ∧ t.bagging.baseline = none
    ∧ t.card.session = ⟨.noCard, none, false, none, none, none, none⟩ ∧ t.card.failures = 0 ∧ t.card.attempts = 0
    ∧ (∀ i : Fin 64, t.card.issuers[i].valid = false)
    ∧ t.drawer.state = (if p.drawerOpen then .opened else .closed) ∧ t.drawer.till = ⟨0, 0, 0, 0, 0, 0⟩
    ∧ t.composer.jobs = [] ∧ t.composer.nextJob = 1 ∧ t.composer.feedToCut = 48 ∧ t.composer.freeMark = 0
    ∧ t.mechanism.ring = [] ∧ t.mechanism.heat = Config.heatDefaults
    ∧ t.mechanism.stopped = (!p.paperPresent || !p.coverClosed)
    ∧ t.mechanism.fault = (if p.thermistor = none then some .thermistorOpen else if p.cutterHome then none else some .cutterJam)
    ∧ t.attention.current = none ∧ t.attention.conditions = []
    ∧ t.attention.causes = (if p.thermistor = none ∨ p.cutterHome = false then [.printerFault] else [])
    ∧ (∀ i : Fin 16, t.bus.slots[i] = .unused)
    ∧ t.sale = State.reset.sale ∧ t.scan = State.reset.scan ∧ t.cache = State.reset.cache ∧ t.bagging = State.reset.bagging
    ∧ t.card = State.reset.card ∧ t.composer = State.reset.composer ∧ t.bus = State.reset.bus

/-! ## The peripheral bus (chapter 10) -/

/-- SLOT_TABLE_WRITE: STATE while the lane is READY; RANGE for a channel above 4, a role that is none, two STATUS
slots or more than 4 DATA slots of one channel; else the table is replaced and every channel restarts with its
presence taken anew, its phase, echo value and filtered status kept (R175, R183).  That an abort group presented is dropped,
and an abort owed kept by a channel left ABSENT, is the model's choice (log entry 31). -/
def Obligations.SlotTableWriteRestartsChannels : Prop :=
  ∀ (w : Vector SlotWrite 16) (s : State), s.routes .management = true → Published s →
    let taken := markUnanswered .management s
    let entry (x : SlotWrite) (y : Slot) : Prop := match x, y with
      | .unused, .unused => True
      | .assigned ch role, .assigned c r => ch = c.val ∧ role = some r
      | _, _ => False
    let count (ch : ChannelId) (r : SlotRole) := (w.toList.filter (· == .assigned ch.val (some r))).length
    let valid := (∀ x ∈ w.toList, ∃ y, entry x y) ∧ ∀ ch, count ch .status ≤ 1 ∧ count ch .data ≤ 4
    (s.lane.ready = true → exec (.slotTableWrite w) s = .next (replyRefused .management .slotTableWrite .state taken)) ∧
    (s.lane.ready = false → ¬ valid →
      exec (.slotTableWrite w) s = .next (replyRefused .management .slotTableWrite .range taken)) ∧
    (s.lane.ready = false → valid → ∃ t, exec (.slotTableWrite w) s = .next t ∧ Shows { s with bus := t.bus } t
      ∧ t.attention = { s.attention with displayWaiting := t.attention.displayWaiting }
      ∧ (∀ i : Fin 16, entry w[i] t.bus.slots[i])
      ∧ (∀ ch : ChannelId,
          let c := s.bus.channels[ch]
          let d := t.bus.channels[ch]
          d.phase = c.phase ∧ d.echo = c.echo ∧ d.filtered = c.filtered ∧ d.wire = 0 ∧ d.abandons = 0
            ∧ d.complete = [] ∧ d.assembling = [] ∧ d.presented = none
            ∧ (d.present = true ↔ (if ∃ i : Fin 16, t.bus.slots[i] = .assigned ch .status then c.filtered ≠ 0
                else ∃ i : Fin 16, t.bus.slots[i] = .assigned ch .data))
            ∧ (d.abortOwed = true ↔ c.abortOwed = true ∨ c.transmit ≠ [])
            ∧ (ch ≠ 1 → ch ≠ 2 → d.transmit = []))
      ∧ t.bus.channels[(0 : ChannelId)].nextWire = some 1 ∧ t.bus.channels[(1 : ChannelId)].nextWire = some s.card.light
      ∧ Issued ⟨.management, .slotTableWrite, .done (.slots t.bus.slots)⟩ t)

/-- Messages of the bus: a frame to 12h, 13h or 14h is refused with RANGE for a payload that is empty or above 256
bytes, STATE while the channel is ABSENT or has no DATA slot, FULL while 4 messages are queued, else its payload joins
the transmit queue (R182).  The oldest complete message of a channel takes the place it waited for in the outbound
queue, and the held message of the reader and of the display joins its transmit queue, from where the 3,000 ms of a
reader event prompt run (R182, R96, R166; that this is its sending is log entry 29); a scanner message that is no code
message goes up the link, and a code message stands behind one that waits and reaches scan intake when that one has gone
(R28, R182).  The model's choices (log entry 31): these two commands stand for their messages as they are handed on, so
the abandon count is left to BUS_CYCLE, and a code message that finds a third complete message held finds no buffer. -/
def Obligations.MessagesJoinQueuesAndGoOn : Prop :=
  (∀ (aux : Fin 3) (payload : List Byte) (s : State),
    let ch : ChannelId := ⟨aux.val + 2, by omega⟩
    let a : Address := match aux with | 0 => .channel2 | 1 => .channel3 | 2 => .channel4
    let c := s.bus.channels[ch]
    let taken := markUnanswered a s
    let served := c.present = true ∧ ∃ i : Fin 16, s.bus.slots[i] = .assigned ch .data
    s.routes a = true →
    (payload = [] ∨ 256 < payload.length →
      exec (.channelFrame aux payload) s = .next (replyRefused a .channelFrame .range taken)) ∧
    (payload ≠ [] → payload.length ≤ 256 → ¬ served →
      exec (.channelFrame aux payload) s = .next (replyRefused a .channelFrame .state taken)) ∧
    (payload ≠ [] → payload.length ≤ 256 → served → 4 ≤ c.transmit.length →
      exec (.channelFrame aux payload) s = .next (replyRefused a .channelFrame .full taken)) ∧
    (payload ≠ [] → payload.length ≤ 256 → served → c.transmit.length < 4 →
      exec (.channelFrame aux payload) s = .next (replyDone a .channelFrame .none
        { taken with bus := { s.bus with channels := s.bus.channels.set ch { c with transmit := c.transmit ++ [.bytes payload] } } }))) ∧
  (∀ (ch : ChannelId) (m : List Byte) (s : State), Published s → s.bus.channels[ch].complete = [m] →
    s.bus.channels[ch].thirdComplete = false → s.link.waiters = [.uplink ch] → s.link.queue.length < 16 →
    ∃ t more, exec (.uplinkMessageHandedOn ch) s = .next t
      ∧ t = { s with link := t.link, bus := { s.bus with channels := s.bus.channels.set ch { s.bus.channels[ch] with complete := [] } } }
      ∧ t.link.queue = s.link.queue ++ .uplink ch m :: more ∧ t.link.waiters = []) ∧
  (∀ (m : List Byte) (s : State), Published s → m ≠ [] → m.length ≤ 256 → m.head? ≠ some 0x43#8 →
    s.bus.channels[(0 : ChannelId)].complete = [] → s.bus.channels[(0 : ChannelId)].thirdComplete = false →
    s.link.waiters = [] → s.link.queue.length < 16 →
    exec (.scannerMessageUplink m) s = .next { s with
      link := { s.link with queue := s.link.queue ++ [.uplink 0 m] }
      bus := { s.bus with channels := s.bus.channels.set 0 { s.bus.channels[(0 : ChannelId)] with assembling := [] } } }) ∧
  (∀ (code : Text) (x : List Byte) (xs : List (List Byte)) (s : State), Published s → code.length ≤ 255 →
    let c := s.bus.channels[(0 : ChannelId)]
    let m : List Byte := 0x43#8 :: code
    c.complete = x :: xs → x.head? ≠ some 0x43#8 → Waiter.uplink 0 ∈ s.link.waiters →
    exec (.codeMessage code) s = .next { s with bus := { s.bus with channels := s.bus.channels.set 0 (
      if c.thirdComplete = true then c
      else if xs = [] then { c with complete := [x, m], assembling := [] }
      else { c with assembling := m, thirdComplete := true }) } }) ∧
  (∀ (code : Text) (m : List Byte) (s : State),
    let c := s.bus.channels[(0 : ChannelId)]
    c.complete = [m, 0x43#8 :: code] → c.thirdComplete = false → m.head? ≠ some 0x43#8 → s.link.waiters = [.uplink 0] →
    s.link.replies = [] → s.link.queue.length < 16 →
    ∃ t, exec (.uplinkMessageHandedOn 0) s = .next t ∧ exec (.codeMessage code) { s with
      link := { s.link with queue := s.link.queue ++ [.uplink 0 m], waiters := [] }
      bus := { s.bus with channels := s.bus.channels.set 0 { c with complete := [] } } } = .next t) ∧
  (∀ (m : ReaderOut) (rest : List ReaderOut) (s : State), s.card.waiting = m :: rest →
    s.bus.channels[(1 : ChannelId)].present = true → (∃ i : Fin 16, s.bus.slots[i] = .assigned 1 .data) →
    s.bus.channels[(1 : ChannelId)].transmit.length < 4 →
    exec .readerMessageSent s = .next { s with
      card := { s.card with
        waiting := rest
        prompt := match m with
          | .prompt _ _ => s.card.prompt.map fun p =>
              if p.kind = .removeCard then p else { p with deadline := some (s.now + 3000) }
          | _ => s.card.prompt }
      bus := { s.bus with channels := s.bus.channels.set 1 { s.bus.channels[(1 : ChannelId)] with
        transmit := s.bus.channels[(1 : ChannelId)].transmit ++ [.reader m] } } }) ∧
  (∀ (m : List Byte) (s : State), s.attention.displayWaiting = some m →
    s.bus.channels[(2 : ChannelId)].present = true → (∃ i : Fin 16, s.bus.slots[i] = .assigned 2 .data) →
    s.bus.channels[(2 : ChannelId)].transmit.length < 4 →
    exec .displayMessageSent s = .next { s with
      attention := { s.attention with displayWaiting := none }
      bus := { s.bus with channels := s.bus.channels.set 2 { s.bus.channels[(2 : ChannelId)] with
        transmit := s.bus.channels[(2 : ChannelId)].transmit ++ [.bytes m] } } })

/-- A change of inbound status: the filtered value is the new one, 0 makes the channel ABSENT with nothing left to
send and any other value makes it PRESENT; CHANNEL_STATE is queued, and a required channel lost during a sale raises
PERIPHERAL_ABSENT (R176, R180, R181).  A channel without a STATUS slot takes no value (R175; log entry 17), and an abort
group presented is dropped (log entry 31). -/
def Obligations.InboundStatusChangesPresence : Prop :=
  ∀ (ch : ChannelId) (v : BitVec 4) (s : State),
    ((∀ i : Fin 16, s.bus.slots[i] ≠ .assigned ch .status) → exec (.inboundStatusChange ch v) s = .next s) ∧
    (s.bus.channels[ch].filtered ≠ v → FewWaiting s → (∃ i : Fin 16, s.bus.slots[i] = .assigned ch .status) →
    let c := s.bus.channels[ch]
    ∃ t, exec (.inboundStatusChange ch v) s = .next t ∧ Shows s t
      ∧ t.bus.channels[ch].filtered = v ∧ (t.bus.channels[ch].present = true ↔ v ≠ 0)
      ∧ (v = 0 → c.present = true → t.bus.channels[ch].transmit = [] ∧ t.bus.channels[ch].presented = none
          ∧ t.bus.channels[ch].abortOwed = false ∧ t.bus.channels[ch].abandons = 0)
      ∧ (∀ o : ChannelId, o ≠ ch → t.bus.channels[o].filtered = s.bus.channels[o].filtered
          ∧ t.bus.channels[o].present = s.bus.channels[o].present)
      ∧ Notified (.channelState ch (v != 0) v t.bus.channels[ch].abandons) t
      ∧ t.attention.causes = (if v = 0 ∧ c.present = true ∧ ch ∈ s.lane.config.requiredChannels
            ∧ (s.sale.state = .opened ∨ s.sale.state = .paying) ∧ Cause.peripheralAbsent ∉ s.attention.causes
          then s.attention.causes ++ [.peripheralAbsent] else s.attention.causes))

/-- A bus cycle over a table with no DATA slots: the STATUS slot carries the value then on the wire, a next value goes
on the wire once the present one was sent for 3 cycles, and a value read in three cycles in a row becomes the filtered
one; unused slots carry nothing (R175, R176). -/
def Obligations.BusCycleSendsAndFiltersStatus : Prop :=
  ∀ (up : Vector SlotSignal 16) (s : State), (∀ (i : Fin 16) (ch : ChannelId), s.bus.slots[i] ≠ .assigned ch .data) →
    ∃ t, exec (.busCycle up) s = .next t ∧ Shows { s with bus := { s.bus with down := t.bus.down } } t
      ∧ (∀ i : Fin 16, s.bus.slots[i] = .unused → t.bus.down[i] = ⟨0, false, false, false, false, false⟩)
      ∧ (∀ ch : ChannelId, t.bus.channels[ch].wire = (match s.bus.channels[ch].nextWire with
          | some v => if 3 ≤ s.bus.channels[ch].wireCycles then v else s.bus.channels[ch].wire
          | none => s.bus.channels[ch].wire))
      ∧ (∀ (ch : ChannelId) (i : Fin 16), (∀ j : Fin 16, s.bus.slots[j] = .assigned ch .status ↔ j = i) →
          let c := s.bus.channels[ch]
          let v : BitVec 4 := up[i].byte.setWidth 4
          t.bus.down[i] = ⟨t.bus.channels[ch].wire.setWidth 8, false, false, false, false, false⟩
            ∧ t.bus.channels[ch].candidate = v
            ∧ t.bus.channels[ch].run = (if v = c.candidate then min 3 (c.run + 1) else 1)
            ∧ t.bus.channels[ch].filtered = (if v = c.candidate ∧ 2 ≤ c.run then v else c.filtered))

/-- The data handshake over the group of DATA slots of channel 3 or 4, all other slots unused.  Sending: the next bytes of
the message go out with V, and L on its last byte, under an inverted phase; unanswered they are presented again up to the
handshake limit, taken they make way for the next group or end the message, refused or timed out they abandon it, an abort
being owed by timeout; an owed abort group, L alone in its last slot, ends when it is answered or times out.  Receiving: a
group under the phase already echoed is not taken; of a new one an abort empties the assembling buffer, a group past 256
bytes or behind a third complete message is refused, and any other is assembled; L completes the message, which goes up the
link or, behind one that waits, is held (R177, R178, R179, R181, R182).  The model's choices (log entry 31): the part fills
the down slots before it reads the up slots of the same cycle, so that a group first presented in a cycle can be answered in
it, and a new up group is echoed and refused in the cycle after; the refusal behind a third complete message keeps it; the
handshake limit is the one configured in the cycle. -/
def Obligations.BusCycleHandsBytesOver : Prop :=
  ∀ (up : Vector SlotSignal 16) (ch : ChannelId) (slots : List (Fin 16)) (first final : Fin 16) (s : State), Published s →
    (ch = 3 ∨ ch = 4) → slots.Pairwise (· < ·) → slots.head? = some first → slots.getLast? = some final →
    (∀ i : Fin 16, s.bus.slots[i] = if i ∈ slots then .assigned ch .data else .unused) →
    let c := s.bus.channels[ch]
    let u := up[first]
    let limit := s.lane.config.handshakeLimit
    let silent := c.presented = none ∧ c.abortOwed = false ∧ c.transmit = []
    let down (bytes : List Byte) (l : Option Nat) (phase echo : Bool) (t : State) := ∀ (j : Nat) (i : Fin 16), slots[j]? = some i →
      t.bus.down[i] = ⟨bytes.getD j 0, decide (j < bytes.length), l == some j, j == 0 && phase, j == 0 && echo, j == 0 && c.refusing⟩
    let cycle (t : State) := exec (.busCycle up) s = .next t
      ∧ t = { s with link := t.link, bus := { s.bus with channels := t.bus.channels, down := t.bus.down } }
      ∧ (∀ i : Fin 16, i ∉ slots → t.bus.down[i] = ⟨0, false, false, false, false, false⟩)
    let becomes (ch : ChannelId) (d : Channel) (t : State) := t.bus.channels[ch] = { d with
      wire := t.bus.channels[ch].wire, wireCycles := t.bus.channels[ch].wireCycles, nextWire := t.bus.channels[ch].nextWire }
    let onBus (d : Channel) (t : State) := t.link = s.link ∧ becomes ch d t ∧ ∀ o : ChannelId, o ≠ ch → becomes o s.bus.channels[o] t
    let freed (p : Channel) : Channel := { p with presented := none, cycles := 0 }
    let dropped (p : Channel) (rest : List TxMessage) : Channel := { freed p with transmit := rest, offset := 0 }
    (∀ (m : List Byte) (rest : List TxMessage) (p : Channel), c.transmit = .bytes m :: rest → m.drop c.offset ≠ [] →
      c.echo = some u.phase → c.abandons < 2 →
      let left := m.drop c.offset
      let bytes := left.take slots.length
      let last := decide (left.length ≤ slots.length)
      (c.presented = none ∧ c.abortOwed = false ∧ c.present = true
          ∧ p = { c with presented := some (.data bytes last), phase := !c.phase, cycles := 0 }
        ∨ c.presented = some (.data bytes last) ∧ p = c) →
      ∃ t, cycle t ∧ down bytes (if last then some (bytes.length - 1) else none) p.phase u.phase t
        ∧ (u.echo ≠ p.phase → p.cycles + 1 < limit → onBus { p with cycles := p.cycles + 1 } t)
        ∧ (u.echo ≠ p.phase → limit ≤ p.cycles + 1 →
            onBus { dropped p rest with abandons := c.abandons + 1, abortOwed := true } t)
        ∧ (u.echo = p.phase → u.refuse = true → onBus { dropped p rest with abandons := c.abandons + 1 } t)
        ∧ (u.echo = p.phase → u.refuse = false → last = true → onBus { dropped p rest with abandons := 0 } t)
        ∧ (u.echo = p.phase → u.refuse = false → last = false →
            onBus { freed p with offset := c.offset + bytes.length } t)) ∧
    (∀ p : Channel, c.echo = some u.phase →
      (c.presented = none ∧ c.abortOwed = true ∧ c.present = true
          ∧ p = { c with presented := some .abort, phase := !c.phase, cycles := 0, abortOwed := false }
        ∨ c.presented = some .abort ∧ p = c) →
      ∃ t, cycle t ∧ down [] (some (slots.length - 1)) p.phase u.phase t
        ∧ (u.echo = p.phase ∨ limit ≤ p.cycles + 1 → onBus (freed p) t)
        ∧ (u.echo ≠ p.phase → p.cycles + 1 < limit → onBus { p with cycles := p.cycles + 1 } t)) ∧
    (silent → c.echo = some u.phase → ∃ t, cycle t ∧ down [] none c.phase u.phase t ∧ onBus c t) ∧
    (silent → c.echo = none → ∃ t, cycle t ∧ onBus { c with echo := some u.phase, refusing := false } t) ∧
    (silent → c.echo = some (!u.phase) →
      let valid := slots.filter fun i => up[i].valid
      let bytes := valid.map fun i => up[i].byte
      let m := c.assembling ++ bytes
      let p : Channel := { c with echo := some u.phase, refusing := false }
      ∃ t, cycle t ∧ down [] none c.phase (!u.phase) t
        ∧ (valid = [] → up[final].last = true → c.thirdComplete = false → onBus { p with assembling := [] } t)
        ∧ (valid = [] → (∀ i ∈ slots, up[i].last = false) → onBus p t)
        ∧ (valid ≠ [] → c.thirdComplete = true → onBus { p with refusing := true } t)
        ∧ (valid ≠ [] → c.thirdComplete = false → 256 < m.length → onBus { p with refusing := true, assembling := [] } t)
        ∧ (valid ≠ [] → c.thirdComplete = false → m.length ≤ 256 →
            ((∀ i ∈ valid, up[i].last = false) → onBus { p with assembling := m } t) ∧
            ((∃ i ∈ valid, up[i].last = true) → c.present = true →
              (.uplink ch ∈ s.link.waiters →
                (c.complete.length < 2 → onBus { p with complete := c.complete ++ [m], assembling := [], abandons := 0 } t) ∧
                (2 ≤ c.complete.length → onBus { p with assembling := m, thirdComplete := true, abandons := 0 } t)) ∧
              (c.complete = [] → s.link.waiters = [] → s.link.queue.length < 16 →
                t.link = { s.link with queue := s.link.queue ++ [.uplink ch m] }
                  ∧ becomes ch { p with assembling := [], abandons := 0 } t
                  ∧ ∀ o : ChannelId, o ≠ ch → becomes o s.bus.channels[o] t))))

/-- An abandoned message leaves the transmit queue; by timeout an abort is owed, a timed-out abort group counts
nothing, and the third abandon in a row makes the channel ABSENT, reported by CHANNEL_STATE (R178, R180, R181).  The
model's choice (log entry 17): an expiry with nothing presented changes nothing, and ABANDON_LIMIT_REACHED acts with two
abandons counted and a message queued. -/
def Obligations.AbandonsMakeAChannelAbsent : Prop :=
  ∀ (ch : ChannelId) (s : State), Published s →
    let c := s.bus.channels[ch]
    (∀ (bytes : List Byte) (last : Bool), c.presented = some (.data bytes last) → c.abandons < 2 →
      exec (.handshakeLimitExpiry ch) s = .next { s with bus := { s.bus with channels := s.bus.channels.set ch { c with
        transmit := c.transmit.drop 1, offset := 0, presented := none, cycles := 0
        abandons := c.abandons + 1, abortOwed := true } } }) ∧
    (c.presented = some .abort → exec (.handshakeLimitExpiry ch) s
      = .next { s with bus := { s.bus with channels := s.bus.channels.set ch { c with presented := none, cycles := 0 } } }) ∧
    (c.presented = none → exec (.handshakeLimitExpiry ch) s = .next s) ∧
    (∀ e : Instr, FewWaiting s → c.present = true → c.abandons = 2 →
      (e = .abandonLimitReached ch ∧ c.transmit ≠ [] ∨
        e = .handshakeLimitExpiry ch ∧ ∃ bytes last, c.presented = some (.data bytes last)) →
      ∃ t, exec e s = .next t ∧ Shows s t ∧ t.bus.channels[ch].present = false ∧ t.bus.channels[ch].transmit = []
        ∧ t.bus.channels[ch].abortOwed = false ∧ t.bus.channels[ch].abandons = 0 ∧ t.bus.channels[ch].presented = none
        ∧ t.bus.channels[ch].filtered = c.filtered ∧ Notified (.channelState ch false c.filtered 0) t
        ∧ (ch ∈ s.lane.config.requiredChannels → (s.sale.state = .opened ∨ s.sale.state = .paying) →
            Cause.peripheralAbsent ∈ t.attention.causes)
        ∧ (¬ (s.sale.state = .opened ∨ s.sale.state = .paying) → t.attention.causes = s.attention.causes))

/-! ## Scan intake and the article cache (chapter 2) -/

/-- RANGE_RULE_WRITE and ISSUER_WRITE: STATE unless the sale is IDLE, RANGE for a field outside its values, else the
one entry is replaced; a new rule invalidates every cached entry it marks DIRECT, each dirty one reported first with
reason RULE, at once where the reports find places (R32, R101).  Nothing more is said of a write whose reports still wait
for one (R50). -/
def Obligations.RuleAndIssuerWrites : Prop :=
  (∀ (n : Nat) (w : RuleWrite) (s : State), s.routes .management = true → Published s → s.cache.work = [] →
    s.cache.waiting = false →
    let taken := markUnanswered .management s
    let long : RuleLength → Nat := fun l => match l with | .l8 => 8 | .l12 => 12 | .l13 => 13 | .l14 => 14 | .any => 0
    let embeds (a : RuleAction) : Prop := a = .embedPrice ∨ a = .embedWeight
    let fits (l : RuleLength) (a : RuleAction) : Prop := embeds a →
      l ≠ .any ∧ (w.fieldDigits = 4 ∨ w.fieldDigits = 5) ∧ w.pre.length < w.fieldStart ∧ w.fieldStart + w.fieldDigits ≤ long l
    let dirty := (((List.finRange 256).flatMap fun i => (s.cache.sets[i]).way0.toList ++ (s.cache.sets[i]).way1.toList).filter
      CacheEntry.dirty).length
    let valid := n < 4 ∧ w.pre ≠ [] ∧ w.pre.length ≤ 6 ∧ Digits w.pre ∧ ∃ l a, w.length = some l ∧ w.action = some a ∧ fits l a
    (s.sale.state ≠ .idle → exec (.rangeRuleWrite n w) s = .next (replyRefused .management .rangeRuleWrite .state taken)) ∧
    (s.sale.state = .idle → ¬ valid →
      exec (.rangeRuleWrite n w) s = .next (replyRefused .management .rangeRuleWrite .range taken)) ∧
    (s.sale.state = .idle → valid → ∃ t, exec (.rangeRuleWrite n w) s = .next t
      ∧ t = { s with link := t.link, cache := t.cache, scan := { s.scan with rules := t.scan.rules } }
      ∧ (dirty = 0 ∨ s.link.waiters = [] ∧ s.link.queue.length + dirty ≤ 16 → t.cache.waiting = false)
      ∧ (∀ i : Fin 4, i.val ≠ n → t.scan.rules[i] = s.scan.rules[i])
      ∧ (∀ i : Fin 4, i.val = n → t.scan.rules[i].enabled = w.enabled ∧ t.scan.rules[i].pre = w.pre
          ∧ some t.scan.rules[i].length = w.length ∧ some t.scan.rules[i].action = w.action
          ∧ (embeds t.scan.rules[i].action → t.scan.rules[i].field = some ⟨w.fieldStart, w.fieldDigits⟩)
          ∧ (t.cache.waiting = false → ∃ k, Issued ⟨.management, .rangeRuleWrite, .done (.ruleStored t.scan.rules[i] k)⟩ t))
      ∧ (t.cache.waiting = false → ∀ (i : Fin 256) (y : Way), t.cache.sets[i].lru = s.cache.sets[i].lru ∧
          match (s.cache.sets[i]).way y with
          | none => (t.cache.sets[i]).way y = none
          | some e => if markedDirect t.scan.rules e.code then (t.cache.sets[i]).way y = none
              ∧ (e.dirty = true → Notified (.tallyReport e.code e.count e.value .rule) t)
            else (t.cache.sets[i]).way y = some e))) ∧
  (∀ (n : Nat) (w : IssuerWrite) (s : State), s.routes .management = true →
    let taken := markUnanswered .management s
    let lo := max 12 (min 19 w.minLength)
    let hi := max 12 (min 19 w.maxLength)
    let valid := n < 64 ∧ w.low.length = 6 ∧ Digits w.low ∧ w.high.length = 6 ∧ Digits w.high ∧ w.route.isSome = true
      ∧ digitsValue w.low ≤ digitsValue w.high ∧ lo ≤ hi
    (s.sale.state ≠ .idle → exec (.issuerWrite n w) s = .next (replyRefused .management .issuerWrite .state taken)) ∧
    (s.sale.state = .idle → ¬ valid →
      exec (.issuerWrite n w) s = .next (replyRefused .management .issuerWrite .range taken)) ∧
    (∀ (h : n < 64) (r : RouteClass), s.sale.state = .idle → valid → w.route = some r →
      let e : IssuerEntry := ⟨w.valid, digitsValue w.low, digitsValue w.high, lo, hi, r⟩
      exec (.issuerWrite n w) s = .next (replyDone .management .issuerWrite (.issuer e)
        { taken with card := { s.card with issuers := s.card.issuers.set n e } })))

/-- ARTICLE_PIN and ARTICLE_UNPIN: NOT_FOUND where the code is not cached, else DONE with the entry's pinned mark as
asked, whatever it was, and nothing else touched, the LRU mark included; a fill for another code to a set with both
ways pinned goes uncached (R47).  NOT_FOUND for a string that is no code is the model's reading (log entry 22), and that
both requests are answered at once while the cache waits with a report is its choice (log entry 23). -/
def Obligations.PinAndUnpin : Prop :=
  ∀ (pin : Bool) (code : Text) (i : Fin 256) (s : State), s.routes .management = true → i.val = digitsValue code % 256 →
    let c : Instr := if pin then .articlePin code else .articleUnpin code
    let r : Req := if pin then .articlePin else .articleUnpin
    let taken := markUnanswered .management s
    let isCode := code ≠ [] ∧ code.length ≤ 14 ∧ Digits code
    let held (w : Way) (e : CacheEntry) := (s.cache.sets[i]).way w = some e ∧ e.code = digitsValue code
    (¬ isCode ∨ (∀ w e, ¬ held w e) → exec c s = .next (replyRefused .management r .notFound taken)) ∧
    (∀ (w : Way) (e : CacheEntry), isCode → held w e → (∀ e', ¬ held w.other e') →
      exec c s = .next (replyDone .management r .none { taken with cache := { s.cache with
        sets := s.cache.sets.set i ((s.cache.sets[i]).setWay w (some { e with pinned := pin })) } })) ∧
    (∀ (a : ArticleWrite) (e0 e1 : CacheEntry), isCode → Published s → s.cache.work = [] → s.cache.waiting = false →
      (s.cache.sets[i]).way0 = some e0 → (s.cache.sets[i]).way1 = some e1 → e0.pinned = true → e1.pinned = true →
      e0.code ≠ digitsValue code → e1.code ≠ digitsValue code → markedDirect s.scan.rules (digitsValue code) = false →
      (∀ l ∈ s.scan.lookups, l.code ≠ digitsValue code) → (articleOf a).isSome = true →
      exec (.articleFill code (some a)) s
        = .next (replyDone .management .articleFill (.fill (.notCached .pinned) 0) taken))

/-- ARTICLE_UPDATE overwrites the present fields of a cached entry in place, is answered "not cached" where there is
none, and is refused with RANGE for a field out of its range, the price by the entry's kind; ARTICLE_PROBE answers
with the first rule that matches, the lookup code, and where it is listed and cached, and changes nothing (R46,
R48).  RANGE for an update of a string that is no code is the model's reading (log entry 22), and so is that an update and
a probe are answered at once while the cache waits (log entry 23). -/
def Obligations.UpdateAndProbe : Prop :=
  (∀ (code : Text) (w : ArticleChange) (i : Fin 256) (s : State), s.routes .management = true →
    i.val = digitsValue code % 256 →
    let taken := markUnanswered .management s
    let isCode := code ≠ [] ∧ code.length ≤ 14 ∧ Digits code
    let held (y : Way) (e : CacheEntry) := (s.cache.sets[i]).way y = some e ∧ e.code = digitsValue code
    let ok (top : Nat) := (∀ p ∈ w.unitPrice, 1 ≤ p ∧ p ≤ top) ∧ (∀ t ∈ w.description, t.length ≤ 24)
      ∧ (∀ x ∈ w.tare, x ≤ 9999) ∧ (∀ x ∈ w.expectedWeight, x ≤ 30000) ∧ (∀ x ∈ w.tolerance, x ≤ 2000)
    let top (e : CacheEntry) : Nat := match e.article.kind with | .counted => 9999999 | .weighed => 999999
    let refused := Host.Outcome.next (replyRefused .management .articleUpdate .range taken)
    (¬ isCode → exec (.articleUpdate code w) s = refused) ∧
    (isCode → (∀ y e, ¬ held y e) → exec (.articleUpdate code w) s
      = if ok 9999999 then .next (replyDone .management .articleUpdate (.updated false) taken) else refused) ∧
    (∀ (y : Way) (e : CacheEntry), isCode → held y e → (∀ e', ¬ held y.other e') →
      (ok (top e) → exec (.articleUpdate code w) s
        = .next (replyDone .management .articleUpdate (.updated true) { taken with cache := { s.cache with
            sets := s.cache.sets.set i ((s.cache.sets[i]).setWay y (some { e with article := { e.article with
              unitPrice := w.unitPrice.getD e.article.unitPrice
              description := w.description.getD e.article.description
              tare := w.tare.getD e.article.tare
              expectedWeight := w.expectedWeight.getD e.article.expectedWeight
              tolerance := w.tolerance.getD e.article.tolerance } })) } })) ∧
      (¬ ok (top e) → exec (.articleUpdate code w) s = refused))) ∧
  (∀ (code : Text) (s : State), s.routes .management = true →
    let taken := markUnanswered .management s
    let hits (i : Fin 4) := s.scan.rules[i].enabled = true ∧ s.scan.rules[i].pre <+: code
      ∧ (match s.scan.rules[i].length with
        | .l8 => code.length = 8 | .l12 => code.length = 12 | .l13 => code.length = 13 | .l14 => code.length = 14
        | .any => True)
    (code = [] ∨ 14 < code.length ∨ ¬ Digits code →
      exec (.articleProbe code) s = .next (replyRefused .management .articleProbe .range taken)) ∧
    (code ≠ [] → code.length ≤ 14 → Digits code → ∃ p : ProbeReport,
      exec (.articleProbe code) s = .next (replyDone .management .articleProbe (.probe p) taken)
      ∧ ((∀ i, ¬ hits i) → p.rule = none ∧ p.lookup = digitsValue code)
      ∧ (∀ i, hits i → (∀ j, j < i → ¬ hits j) → p.rule = some ⟨i, s.scan.rules[i].action⟩
          ∧ (s.scan.rules[i].action = .direct ∨ s.scan.rules[i].action = .refuse → p.lookup = digitsValue code))
      ∧ (p.listed = true ↔ ∃ l ∈ s.scan.lookups, l.code = p.lookup)
      ∧ (p.cached = none ↔ ∀ (i : Fin 256) (y : Way) (e : CacheEntry), i.val = p.lookup % 256 →
          (s.cache.sets[i]).way y = some e → e.code ≠ p.lookup)
      ∧ (∀ i y e, p.cached = some (i, y, e) → i.val = p.lookup % 256 ∧ (s.cache.sets[i]).way y = some e ∧ e.code = p.lookup)))

/-- ARTICLE_FILL: RANGE for a code or field outside its values; a cacheable record goes to the way that holds its
code, else to an invalid way, way 0 first, else to the unpinned way named by the LRU mark or the other one, whose dirty
tallies are reported first with reason EVICT; the LRU mark then names the other way.  A preload resolves nothing.  A fill
for a listed code gives every entry waiting on it its copy of the record, READY or RESOLVED by the article's kind and the
entry's rule, DIRECT among them, and takes the code from the list: the record is placed as a preload is, or, marked DIRECT
or listed with the no-cache mark, used and not cached.  UNKNOWN removes the entry waiting (R35, R43, R44, R45). -/
def Obligations.ArticleFillPlacesAndResolves : Prop :=
  ∀ (code : Text) (w : ArticleWrite) (k : ArticleKind) (i : Fin 256) (s : State), s.routes .management = true →
    Published s → s.cache.work = [] → s.cache.waiting = false → i.val = digitsValue code % 256 → w.kind = some k →
    let c := digitsValue code
    let taken := markUnanswered .management s
    let isCode := code ≠ [] ∧ code.length ≤ 14 ∧ Digits code
    let ok := 1 ≤ w.unitPrice ∧ w.unitPrice ≤ (match k with | .counted => 9999999 | .weighed => 999999)
      ∧ w.tare ≤ 9999 ∧ w.expectedWeight ≤ 30000 ∧ w.tolerance ≤ 2000
    let a : Article := ⟨k, w.unitPrice, w.tare, w.expectedWeight, w.tolerance, w.description.take 24, w.ageRestricted, w.noBag⟩
    let set := s.cache.sets[i]
    let stored (y : Way) (e : CacheEntry) : Cache :=
      { s.cache with sets := s.cache.sets.set i { set.setWay y (some e) with lru := y.other } }
    let other (y : Way) := ∀ e, set.way y.other = some e → e.code ≠ c
    let places (y : Way) (x : CacheEntry) (victim : Option CacheEntry) :=
      (victim = none ∧ other y ∧ ∃ e, set.way y = some e ∧ e.code = c ∧ x = { e with article := a }) ∨
      (x = ⟨false, c, a, 0, 0, false⟩ ∧ other y ∧ set.way y = victim ∧
        match victim with
        | none => y = .zero ∨ set.way0 ≠ none
        | some e => e.code ≠ c ∧ e.pinned = false ∧ ∃ o, set.way y.other = some o ∧ (set.lru = y ∨ o.pinned = true))
    let room (e : CacheEntry) := e.dirty = true → s.link.waiters = [] ∧ s.link.queue.length < 16
    let waits (e : ScanEntry) : Bool := e.state == .lookupPending && e.lookup == c
    let becomes (e : ScanEntry) : Option EntryState := match e.rule.map AppliedRule.action, k with
      | some .embedPrice, _ => some .ready
      | some .embedWeight, .weighed => some .ready
      | some .embedWeight, .counted => none
      | _, .counted => some .ready
      | _, .weighed => some .resolved
    let noCache := ∃ l ∈ s.scan.lookups, l.code = c ∧ l.noCache = true
    let resolved (cache : Cache) (outcome : FillOutcome) (t : State) := exec (.articleFill code (some w)) s = .next t
      ∧ t = { s with
          link := t.link
          cache := cache
          scan := { s.scan with
            queue := s.scan.queue.map fun e => if waits e then
              { e with state := (becomes e).getD .ready, article := some a } else e
            lookups := s.scan.lookups.filter fun l => l.code != c } }
      ∧ Issued ⟨.management, .articleFill, .done (.fill outcome (s.scan.queue.filter waits).length)⟩ t
    (¬ isCode ∨ ¬ ok → exec (.articleFill code (some w)) s = .next (replyRefused .management .articleFill .range taken)) ∧
    (isCode → ok → markedDirect s.scan.rules c = false → (∀ l ∈ s.scan.lookups, l.code ≠ c) →
      (∀ y x, places y x none → exec (.articleFill code (some w)) s
        = .next (replyDone .management .articleFill (.fill (.cached i y none) 0) { taken with cache := stored y x })) ∧
      (∀ y x e, places y x (some e) → room e → exec (.articleFill code (some w)) s
        = .next (replyDone .management .articleFill (.fill (.cached i y (some e.code)) 0)
          { taken with
            cache := stored y x
            link := { taken.link with queue := s.link.queue
              ++ (if e.dirty then [.notice (.tallyReport e.code e.count e.value .evict)] else []) } }))) ∧
    (isCode → ok → (∃ l ∈ s.scan.lookups, l.code = c) → s.scan.queue.length ≤ 4 →
      (∀ e ∈ s.scan.queue, waits e = true → becomes e ≠ none) →
      (∀ e, s.scan.queue.head? = some e → e.state ≠ .resolved ∧ (waits e = true → becomes e = some .ready)) →
      (markedDirect s.scan.rules c = false → ¬ noCache →
        (∀ y x, places y x none → ∃ t, resolved (stored y x) (.cached i y none) t) ∧
        (∀ y x e, places y x (some e) → room e → ∃ t, resolved (stored y x) (.cached i y (some e.code)) t
          ∧ (e.dirty = true → Notified (.tallyReport e.code e.count e.value .evict) t)) ∧
        (∀ e0 e1, set.way0 = some e0 → set.way1 = some e1 → e0.code ≠ c → e1.code ≠ c → e0.pinned = true → e1.pinned = true →
          ∃ t, resolved s.cache (.notCached .pinned) t)) ∧
      (markedDirect s.scan.rules c = true ∨ noCache → ∃ t, resolved s.cache (.notCached .direct) t)) ∧
    (∀ (e : ScanEntry) (d : Option Time) (mark : Bool), isCode → s.scan.queue = [e] → e.state = .lookupPending →
      e.lookup = c → s.scan.lookups = [⟨c, d, mark⟩] → FewWaiting s →
      ((∀ y x, set.way y = some x → x.code ≠ c) → ∃ t, exec (.articleFill code none) s = .next t
        ∧ Shows { s with scan := { s.scan with queue := [], lookups := [] } } t ∧ t.attention.causes = s.attention.causes
        ∧ t.attention.current = some ⟨.itemUnknown, none⟩
        ∧ Notified (.scanRefused e.source e.received .unknown (if s.sale.state = .idle then 0 else s.sale.number)) t
        ∧ Issued ⟨.management, .articleFill, .done (.fill .none 1)⟩ t))

/-- ARTICLE_FLUSH invalidates the entries its mode names, each dirty one reported first with reason FLUSH, and ONE is
refused with NOT_FOUND where the code is not cached; TALLY_PUSH reports every dirty entry and cleans it; the replies carry
the counts of entries and of reports, at once where the reports find places (R49, R52).  A report the cache waits with is queued when a place comes to it, its
entry is cleaned then, and what stands behind it goes on: the invalidation of a flush, the further reports of a push, the
reply (R50).  NOT_FOUND for a string that is no code is the model's reading (log entry 22), and a waiting report keeps the
place it came for ahead of the other waiters (log entry 16). -/
def Obligations.FlushAndPushReportTallies : Prop :=
  (∀ (m : FlushMode) (s : State), s.routes .management = true → Published s → s.cache.work = [] → s.cache.waiting = false →
    let goes (e : CacheEntry) : Bool := match m with
      | .one code => e.code == digitsValue code
      | .unpinned => !e.pinned
      | .all => true
    let going := ((List.finRange 256).flatMap fun i => (s.cache.sets[i]).way0.toList ++ (s.cache.sets[i]).way1.toList).filter goes
    let found (code : Text) := code ≠ [] ∧ code.length ≤ 14 ∧ Digits code
      ∧ ∃ (i : Fin 256) (y : Way) (e : CacheEntry), i.val = digitsValue code % 256 ∧ (s.cache.sets[i]).way y = some e ∧ e.code = digitsValue code
    (∀ code, m = .one code → ¬ found code → exec (.articleFlush m) s
      = .next (replyRefused .management .articleFlush .notFound (markUnanswered .management s))) ∧
    ((∀ code, m = .one code → found code) → ∃ t, exec (.articleFlush m) s = .next t
      ∧ t = { s with link := t.link, cache := t.cache }
      ∧ (let reports := (going.filter CacheEntry.dirty).length
        reports = 0 ∨ s.link.waiters = [] ∧ s.link.queue.length + reports ≤ 16 → t.cache.waiting = false)
      ∧ (t.cache.waiting = false →
        Issued ⟨.management, .articleFlush, .done (.flushed going.length (going.filter CacheEntry.dirty).length)⟩ t
        ∧ ∀ (i : Fin 256) (y : Way), t.cache.sets[i].lru = s.cache.sets[i].lru ∧
          (∀ e, (s.cache.sets[i]).way y = some e → goes e = true → (t.cache.sets[i]).way y = none
            ∧ (e.dirty = true → Notified (.tallyReport e.code e.count e.value .flush) t)) ∧
          (∀ e, (s.cache.sets[i]).way y = some e → goes e = false → (t.cache.sets[i]).way y = some e) ∧
          ((s.cache.sets[i]).way y = none → (t.cache.sets[i]).way y = none)))) ∧
  (∀ s : State, s.routes .management = true → Published s → s.cache.work = [] → s.cache.waiting = false →
    let dirty := ((List.finRange 256).flatMap fun i => (s.cache.sets[i]).way0.toList ++ (s.cache.sets[i]).way1.toList).filter
      CacheEntry.dirty
    ∃ t, exec .tallyPush s = .next t ∧ t = { s with link := t.link, cache := t.cache }
      ∧ (dirty = [] ∨ s.link.waiters = [] ∧ s.link.queue.length + dirty.length ≤ 16 → t.cache.waiting = false)
      ∧ (t.cache.waiting = false → Issued ⟨.management, .tallyPush, .done (.pushed dirty.length)⟩ t
        ∧ ∀ (i : Fin 256) (y : Way), t.cache.sets[i].lru = s.cache.sets[i].lru ∧
          match (s.cache.sets[i]).way y with
          | none => (t.cache.sets[i]).way y = none
          | some e => (t.cache.sets[i]).way y = some { e with count := 0, value := 0, dirty := false }
              ∧ (e.dirty = true → Notified (.tallyReport e.code e.count e.value .push) t)
              ∨ e.dirty = false ∧ (t.cache.sets[i]).way y = some e)) ∧
  (∀ (i : Fin 256) (y : Way) (reason : TallyReason) (e : CacheEntry) (rest : List CacheWork) (ws : List Waiter) (s : State),
    Published s → s.cache.waiting = true → s.cache.work = .report i y reason :: rest → (s.cache.sets[i]).way y = some e →
    e.dirty = true → s.link.waiters = .cacheReport :: ws → s.link.queue.length < 16 →
    let clean (x : CacheEntry) : CacheEntry := { x with count := 0, value := 0, dirty := false }
    let sets (o : Option CacheEntry) := s.cache.sets.set i ((s.cache.sets[i]).setWay y o)
    ∃ t more, exec .cacheWorkResumes s = .next t
      ∧ t.link.queue = s.link.queue ++ .notice (.tallyReport e.code e.count e.value reason) :: more
      ∧ (∀ r d, rest = [.answer r d] → t = { s with link := t.link, cache := ⟨sets (some (clean e)), [], false⟩ }
          ∧ Issued ⟨.management, r, .done d⟩ t)
      ∧ (∀ r d, rest = [.invalidate i y, .answer r d] → t = { s with link := t.link, cache := ⟨sets none, [], false⟩ }
          ∧ Issued ⟨.management, r, .done d⟩ t)
      ∧ (∀ (qs : List (Fin 256 × Way)) r d, rest = qs.map (fun q => .report q.1 q.2 reason) ++ [.answer r d] →
          t = { s with link := t.link, cache := t.cache }
          ∧ (ws = [] → s.link.replies = [] → s.link.queue.length + 1 + qs.length ≤ 16 → t.cache.waiting = false)
          ∧ (t.cache.waiting = false → t.cache.work = [] ∧ Issued ⟨.management, r, .done d⟩ t
            ∧ ∀ (j : Fin 256) (z : Way), t.cache.sets[j].lru = s.cache.sets[j].lru
              ∧ (t.cache.sets[j]).way z = (if (j, z) = (i, y) ∨ (j, z) ∈ qs then ((s.cache.sets[j]).way z).map clean
                  else (s.cache.sets[j]).way z))))

/-- Every step keeps the cache free of two entries with one code and each entry in the set its code gives; a placement
still waiting behind its report is for a set whose other way does not hold the code (R41, R44). -/
def Obligations.StepsKeepCachePlaced : Prop :=
  ∀ s t : State, CachePlaced s → step s = .next t → CachePlaced t

/-- A code that passes the admission and intake tests joins the tail of the scan queue: a miss is listed with its
deadline and asked for by LOOKUP_REQUEST, a hit on a COUNTED article is READY with its copy and the LRU mark names the
other way, and a hit on a WEIGHED one is RESOLVED, and captures on W0 where it is the head; in IDLE it opens the next
sale, whose number follows the last one, 1 after 9,999.  The first range rule that matches governs: DIRECT asks the terminal
without consulting the cache, EMBED looks the base code up with the embedded value held in the entry, and REFUSE and an
embedded value of 0 refuse the code.  A scanned code gets the good tone, and a refused one SCAN_REFUSED and the reject tone,
one that finds the queue full among them (R5, R8, R30, R34, R35, R39, R42, R75). -/
def Obligations.CodesJoinTheScanQueue : Prop :=
  ∀ (code : Text) (q : Nat) (keyed : Bool) (i : Fin 256) (s : State), FewWaiting s → s.lane.ready = true →
    (keyed = true → s.routes .sale = true) → (keyed = false → s.bus.channels[(0 : ChannelId)].complete = []) → i.val = digitsValue code % 256 → 1 ≤ q → q ≤ 99 →
    code ≠ [] → code.length ≤ 14 → Digits code →
    let c : Instr := if keyed then .keyedCode code q else .codeMessage code
    let source : ScanSource := if keyed then .keyed else .scanner
    let n := digitsValue code
    let entry (st : EntryState) (a : Option Article) : ScanEntry := ⟨code, n, source, if keyed then q else 1, none, st, a, none, none⟩
    let room := s.scan.queue.length < 4 ∧ ∀ e ∈ s.scan.queue, e.state ≠ .resolved
    let unruled := ∀ j : Fin 4, ruleMatches s.scan.rules[j] code = false
    let admitted := codePasses source code = true ∧ unruled ∧ room
    let governs (j : Fin 4) := ruleMatches s.scan.rules[j] code = true ∧ ∀ k : Fin 4, k < j → ruleMatches s.scan.rules[k] code = false
    let ruled (j : Fin 4) (look : Code) (v : Option Nat) (st : EntryState) (a : Option Article) : ScanEntry :=
      ⟨code, look, source, if keyed then q else 1, some ⟨j, s.scan.rules[j].action⟩, st, a, v, none⟩
    let deadline := some (s.now + BitVec.ofNat 32 s.lane.config.lookupLimit)
    let touched (k : Fin 256) (y : Way) : Cache :=
      { s.cache with sets := s.cache.sets.set k { s.cache.sets[k] with lru := y.other } }
    let done (t : State) := keyed = true → Issued ⟨.sale, .keyedCode, .done (.sale t.sale.number)⟩ t
    let tone (x : Tone) (t : State) := keyed = false → t.scan.tone = some x
    (admitted → s.sale.state = .opened → (∀ y e, (s.cache.sets[i]).way y = some e → e.code ≠ n) →
      (∀ l ∈ s.scan.lookups, l.code ≠ n) →
      ∃ t, exec c s = .next t ∧ t.attention.causes = s.attention.causes ∧ done t ∧ tone .good t
        ∧ Notified (.lookupRequest n false code none) t
        ∧ Shows { s with scan := { s.scan with
            queue := s.scan.queue ++ [entry .lookupPending none]
            lookups := s.scan.lookups ++ [⟨n, some (s.now + BitVec.ofNat 32 s.lane.config.lookupLimit), false⟩] } } t) ∧
    (∀ y e, admitted → s.sale.state = .opened → (s.cache.sets[i]).way y = some e → e.code = n →
      (∀ e', (s.cache.sets[i]).way y.other = some e' → e'.code ≠ n) → e.article.kind = .counted →
      ∃ t, exec c s = .next t ∧ t.attention.causes = s.attention.causes ∧ done t ∧ tone .good t
        ∧ Shows { s with
            scan := { s.scan with queue := s.scan.queue ++ [entry .ready (some e.article)] }
            cache := touched i y } t) ∧
    (∀ y e, admitted → s.sale.state = .opened → (s.cache.sets[i]).way y = some e → e.code = n →
      (∀ e', (s.cache.sets[i]).way y.other = some e' → e'.code ≠ n) → e.article.kind = .weighed →
      ∃ t, exec c s = .next t ∧ t.attention.causes = s.attention.causes ∧ done t
        ∧ (s.scan.queue ≠ [] → tone .good t ∧ Shows { s with
            scan := { s.scan with queue := s.scan.queue ++ [entry .resolved (some e.article)] }
            cache := touched i y } t)
        ∧ (s.scan.queue = [] → ¬ (s.w0.state = .fault ∨ s.w0.state = .nozero ∨ s.w0.state = .nocal) → tone .good t ∧ Shows { s with
            scan := { s.scan with
              queue := [entry .capturePending (some e.article)]
              capture := some ⟨s.now + BitVec.ofNat 32 s.lane.config.captureLimit, none, false, false⟩ }
            w0 := { s.w0 with tare := e.article.tare * 10, capturePending := true, trackRun := 0 }
            cache := touched i y } t)
        ∧ (s.scan.queue = [] → (s.w0.state = .fault ∨ s.w0.state = .nozero ∨ s.w0.state = .nocal) → tone .reject t ∧ Shows { s with
            scan := { s.scan with capture := none }
            w0 := { s.w0 with tare := 0, capturePending := false, trackRun := 0 }
            cache := touched i y } t ∧ Notified (.scanRefused source code .noWeight s.sale.number) t)) ∧
    (∀ j, codePasses source code = true → room → s.sale.state = .opened → governs j → s.scan.rules[j].action = .direct →
      ∃ t, exec c s = .next t ∧ t.attention.causes = s.attention.causes ∧ done t ∧ tone .good t
        ∧ Notified (.lookupRequest n true code (some j.val)) t
        ∧ Shows { s with scan := { s.scan with
            queue := s.scan.queue ++ [ruled j n none .lookupPending none]
            lookups := if s.scan.lookups.any fun l => l.code == n then s.scan.lookups.map fun l =>
                if l.code == n then { l with deadline := deadline, noCache := true } else l
              else s.scan.lookups ++ [⟨n, deadline, true⟩] } } t) ∧
    (∀ (j : Fin 4) (f : EmbedField) (k : Fin 256), codePasses source code = true → governs j → s.scan.rules[j].field = some f →
      (s.scan.rules[j].action = .embedPrice ∨ s.scan.rules[j].action = .embedWeight) → s.sale.state = .opened →
      let v := digitsValue ((code.drop (f.start - 1)).take f.digits)
      let base := digitsValue (code.mapIdx fun x b =>
        if (f.start ≤ x + 1 ∧ x + 1 < f.start + f.digits) ∨ x + 1 = code.length then 0x30#8 else b)
      k.val = base % 256 → v ≠ 0 → room →
      ((∀ y e, (s.cache.sets[k]).way y = some e → e.code ≠ base) → (∀ l ∈ s.scan.lookups, l.code ≠ base) →
        ∃ t, exec c s = .next t ∧ t.attention.causes = s.attention.causes ∧ done t ∧ tone .good t
          ∧ Notified (.lookupRequest base false code (some j.val)) t
          ∧ Shows { s with scan := { s.scan with
              queue := s.scan.queue ++ [ruled j base (some v) .lookupPending none]
              lookups := s.scan.lookups ++ [⟨base, deadline, false⟩] } } t) ∧
      (∀ y e, (s.cache.sets[k]).way y = some e → e.code = base →
        (∀ e', (s.cache.sets[k]).way y.other = some e' → e'.code ≠ base) →
        ∃ t, exec c s = .next t ∧ t.attention.causes = s.attention.causes ∧ done t
          ∧ (s.scan.rules[j].action = .embedPrice ∨ e.article.kind = .weighed → tone .good t ∧ Shows { s with
              scan := { s.scan with queue := s.scan.queue ++ [ruled j base (some v) .ready (some e.article)] }
              cache := touched k y } t)
          ∧ (s.scan.rules[j].action = .embedWeight → e.article.kind = .counted → tone .reject t
              ∧ Shows { s with cache := touched k y } t ∧ t.attention.current = some ⟨.itemUnknown, none⟩
              ∧ Notified (.scanRefused source code .rule s.sale.number) t))) ∧
    (∀ j, codePasses source code = true → governs j → s.sale.state = .opened →
      (s.scan.rules[j].action = .refuse ∨ ∃ f, s.scan.rules[j].field = some f
        ∧ (s.scan.rules[j].action = .embedPrice ∨ s.scan.rules[j].action = .embedWeight)
        ∧ digitsValue ((code.drop (f.start - 1)).take f.digits) = 0) →
      ∃ t, exec c s = .next t ∧ Shows s t ∧ tone .reject t ∧ t.attention.causes = s.attention.causes
        ∧ (keyed = true → Issued ⟨.sale, .keyedCode, .refused .range⟩ t)
        ∧ (keyed = false → Notified (.scanRefused .scanner code .rule s.sale.number) t
            ∧ t.attention.current = some ⟨.itemUnknown, none⟩)) ∧
    (codePasses source code = true → unruled → 4 ≤ s.scan.queue.length → s.sale.state = .opened →
      ∃ t, exec c s = .next t ∧ Shows s t ∧ tone .reject t ∧ t.attention.causes = s.attention.causes
        ∧ t.attention.current = s.attention.current
        ∧ (keyed = true → Issued ⟨.sale, .keyedCode, .refused .full⟩ t)
        ∧ (keyed = false → Notified (.scanRefused .scanner code .queueFull s.sale.number) t)) ∧
    (admitted → s.sale.state = .idle → s.lane.config.closeBeforeNext = false → s.scan.queue = [] → s.scan.lookups = [] →
      (∀ y e, (s.cache.sets[i]).way y = some e → e.code ≠ n) →
      ∃ t, exec c s = .next t ∧ done t ∧ tone .good t
        ∧ t.sale = ⟨.opened, if s.sale.number = 9999 then 1 else s.sale.number + 1, [], false, false, 0, .none, none⟩
        ∧ t.scan.queue = [entry .lookupPending none]
        ∧ t.bagging = ⟨.idle, s.w1.stableGross, none, none, none, false, false, 0⟩
        ∧ t.card.failures = 0 ∧ t.card.attempts = 0 ∧ t.card.session = s.card.session
        ∧ Notified (.saleState .opened t.sale.number .opened ⟨0, 0, 0⟩ 0) t
        ∧ (∀ ch ∈ s.lane.config.requiredChannels, s.bus.channels[ch].present = false →
            Cause.peripheralAbsent ∈ t.attention.causes)
        ∧ t.cache = s.cache ∧ t.w0 = s.w0 ∧ t.w1 = s.w1 ∧ t.lastSale = s.lastSale ∧ t.drawer = s.drawer
        ∧ t.composer = s.composer ∧ t.mechanism = s.mechanism ∧ t.lane = s.lane) ∧
    (codePasses source code = false → s.sale.state = .opened → ∃ t, exec c s = .next t ∧ Shows s t ∧ tone .reject t
        ∧ t.attention.causes = s.attention.causes
        ∧ (keyed = true → Issued ⟨.sale, .keyedCode, .refused .range⟩ t)
        ∧ (keyed = false → Notified (.scanRefused .scanner code .check s.sale.number) t
            ∧ t.attention.current = some ⟨.scanAgain, none⟩)) ∧
    (s.sale.state = .settled → ∃ t, exec c s = .next t ∧ Shows s t ∧ tone .reject t
        ∧ t.attention.causes = s.attention.causes ∧ t.attention.current = some ⟨.takeReceipt, none⟩
        ∧ (keyed = true → Issued ⟨.sale, .keyedCode, .refused .state⟩ t)
        ∧ Notified (.scanRefused source code .state s.sale.number) t)

/-- The timers of scan intake: a deadline that expires removes every entry waiting on its code, with
SCAN_REFUSED(timeout) and SCAN_AGAIN; the end of a tone sends the gate value again; an expired capture removes the head,
with SCAN_REFUSED(no weight) and SCAN_AGAIN, and W0 clears its tare and mark; a run of MOTION raises WAIT_WEIGHT (R40,
R38, R77, R76). -/
def Obligations.ScanTimersExpire : Prop :=
  (∀ (c : Code) (s : State), FewWaiting s → s.scan.queue.length ≤ 4 → (∀ e ∈ s.scan.queue, e.state ≠ .resolved) →
    (∃ l ∈ s.scan.lookups, l.code = c ∧ l.deadline.isSome = true) →
    let waits (e : ScanEntry) : Bool := e.state == .lookupPending && e.lookup == c
    ∃ t, exec (.lookupExpiry c) s = .next t
      ∧ Shows { s with scan := { s.scan with
          queue := s.scan.queue.filter fun e => !waits e, lookups := s.scan.lookups.filter fun l => l.code != c } } t
      ∧ t.attention.causes = s.attention.causes
      ∧ (∀ e ∈ s.scan.queue, waits e = true → t.attention.current = some ⟨.scanAgain, none⟩
          ∧ Notified (.scanRefused e.source e.received .timeout (if s.sale.state = .idle then 0 else s.sale.number)) t)) ∧
  (∀ (x : Tone) (s : State), s.scan.tone = some x → exec .toneHoldEnd s = .next { s with
    scan := { s.scan with tone := none }
    bus := { s.bus with channels := s.bus.channels.set 0 { s.bus.channels[(0 : ChannelId)] with
      nextWire := some (match s.scan.gate with | .disabled => 1 | .enabled => 2) } } }) ∧
  (∀ (e : ScanEntry) (rest : List ScanEntry) (k : Capture) (s : State), FewWaiting s → s.scan.capture = some k →
    s.scan.queue = e :: rest → e.state = .capturePending → (∀ x ∈ rest, x.state ≠ .resolved) →
    ∃ t, exec .captureTimerExpiry s = .next t
      ∧ Shows { s with
          scan := { s.scan with queue := rest, capture := none }
          w0 := { s.w0 with tare := 0, capturePending := false } } t
      ∧ t.attention.causes = s.attention.causes ∧ t.attention.current = some ⟨.scanAgain, none⟩
      ∧ (∀ p ∈ t.attention.conditions, p.kind ≠ .waitWeight ∧ p.kind ≠ .placeOnScale)
      ∧ Notified (.scanRefused e.source e.received .noWeight (if s.sale.state = .idle then 0 else s.sale.number)) t) ∧
  (∀ (k : Capture) (s : State), s.scan.capture = some k → k.motionSince.isSome = true → k.waitPrompt = false →
    ∃ t, exec .captureMotionRun s = .next t
      ∧ Shows { s with scan := { s.scan with capture := some { k with waitPrompt := true } } } t
      ∧ t.attention.causes = s.attention.causes ∧ t.attention.current = some ⟨.waitWeight, none⟩
      ∧ (⟨.waitWeight, none⟩ : Prompt) ∈ t.attention.conditions)

/-- A READY head with the check IDLE or OFF and the hold clear becomes the next line: price or weight as its rule and
article give, AWAIT with its expected weight and tolerance in IDLE, NOT_REQUIRED for a no-bag article or in OFF, with
AGE_CHECK for an age-restricted one and LINE_ADDED; past a limit it is removed and SALE_FULL raised (R9, R10, R11, R37,
R78, R82). -/
def Obligations.HeadBecomesALine : Prop :=
  ∀ (e : ScanEntry) (rest : List ScanEntry) (a : Article) (l : SaleLine) (x : Nat) (s : State), FewWaiting s →
    s.scan.queue = e :: rest → e.state = .ready → e.article = some a → (∀ y ∈ rest, y.state ≠ .resolved) →
    s.attention.causes = [] → (s.bagging.state = .idle ∨ s.bagging.state = .off) →
    let n := s.sale.lines.length + 1
    let item (q p : Nat) := (l.kind = .item ∧ l.quantity = some q ∧ l.weight = none ∧ l.unitPrice = some p ∧ l.amount = q * p)
    let weighed (w : Nat) := (l.kind = .weighed ∧ l.weight = some (w : Int) ∧ l.quantity = none ∧ l.unitPrice = some a.unitPrice
      ∧ l.amount = (w * a.unitPrice + 500) / 1000)
    let made : Prop := match e.rule.map AppliedRule.action, a.kind with
      | some .embedPrice, _ => ∃ p, e.embedded = some p ∧ item 1 p ∧ x = a.expectedWeight
      | some .embedWeight, .weighed => ∃ w, e.embedded = some w ∧ weighed w ∧ x = w
      | some .embedWeight, .counted => False
      | _, .counted => item e.quantity a.unitPrice ∧ x = a.expectedWeight * e.quantity
      | _, .weighed => ∃ w : Nat, e.weight = some (w : Int) ∧ weighed w ∧ x = w
    let fits := s.sale.lines.length < 120 ∧ l.amount ≤ 9999999 ∧ itemTotal s.sale.lines + l.amount ≤ 99999999
    let checks := s.bagging.state = .idle ∧ a.noBag = false
    let tolerance : Nat := if a.tolerance = 0 then max s.lane.config.tMin ((x * s.lane.config.bagPct + 99) / 100) else a.tolerance
    made → l.number = n → l.code = some e.lookup → l.description = a.description → l.voided = false →
    l.ageRestricted = a.ageRestricted → l.noBag = a.noBag → l.overridden = false → l.target = none → l.card = none →
    l.bag = (if checks then .await else .notRequired) → l.expected = some (if checks then (x : Int) else 0) →
    l.tolerance = some (if checks then (tolerance : Int) else 0) →
    (fits → ∃ t, exec .headOffered s = .next t
      ∧ Shows { s with
          sale := { s.sale with lines := s.sale.lines ++ [l] }
          scan := { s.scan with queue := rest }
          bagging := t.bagging } t
      ∧ (¬ checks → t.bagging = s.bagging)
      ∧ (checks → t.bagging = { s.bagging with
          state := .awaitAdd
          expectation := some { line := n, direction := .add, change := x, tolerance := tolerance
                                window := if x = 0 then none else s.bagging.baseline.map fun b => (b + x - tolerance, b + x + tolerance)
                                timerStart := some s.now, latest := none }
          deviationStart := none, delta := none, promptRaised := false, causeRaised := false })
      ∧ t.attention.causes = (if a.ageRestricted then [.ageCheck] else [])
      ∧ (a.ageRestricted = true → t.attention.age = some ⟨if s.sale.state = .idle then 0 else s.sale.number, n⟩)
      ∧ Notified (.lineAdded l (totals (s.sale.lines ++ [l]))) t) ∧
    (¬ fits → ∃ t, exec .headOffered s = .next t ∧ Shows { s with scan := { s.scan with queue := rest } } t
      ∧ t.attention.causes = [.saleFull]
      ∧ t.attention.primary = some ⟨s.now, if s.sale.state = .idle then 0 else s.sale.number, 0, some l.amount, false⟩
      ∧ Notified (.scanRefused e.source e.received .saleFull (if s.sale.state = .idle then 0 else s.sale.number)) t)

/-! ## The weighing channels (chapter 3) -/

/-- CAL_WRITE: RANGE, LOCKED and STATE in the order of their tests; else the channel is CALIBRATING with the clamped
record being written, and Management stays unanswered until the end of the write, at which the record works, its count
one more than the one replaced, the channel restarts with zero PENDING, and the reply carries the record and the seal
state as it then stands.  CAL_READ answers with the stored record and the seal state (R56, R57, R58).  The seal input's
level is an operand of these commands (log entry 2). -/
def Obligations.CalibrationIsWrittenAndRead : Prop :=
  (∀ (n : Nat) (id : ScaleId) (w : CalWrite) (v : Bool) (s : State), s.routes .management = true → Published s →
    n = (match id with | .w0 => 0 | .w1 => 1) →
    let c := s.scale id
    let taken := markUnanswered .management { s with pins := { s.pins with sealOpen := v } }
    let running := s.sale.state = .opened ∨ s.sale.state = .paying
    let division := w.division.getD (match id with | .w0 => 5 | .w1 => 2)
    let filter := w.filterLength.getD (match id with | .w0 => 8 | .w1 => 16)
    let valid := w.zeroOffset.isSome = true ∧ w.gain.isSome = true
      ∧ (division = 1 ∨ division = 2 ∨ division = 5 ∨ division = 10 ∨ division = 20)
      ∧ (filter = 1 ∨ filter = 2 ∨ filter = 4 ∨ filter = 8 ∨ filter = 16 ∨ filter = 32) ∧ w.zeroTracking ≠ .invalid
    (∀ m, 2 ≤ m → exec (.calWrite m w v) s = .next (replyRefused .management .calWrite .range taken)
      ∧ exec (.calRead m v) s = .next (replyRefused .management .calRead .range taken)) ∧
    (v = false → exec (.calWrite n w v) s = .next (replyRefused .management .calWrite .locked taken)) ∧
    (v = true → running → exec (.calWrite n w v) s = .next (replyRefused .management .calWrite .state taken)) ∧
    (v = true → ¬ running → ¬ valid →
      exec (.calWrite n w v) s = .next (replyRefused .management .calWrite .range taken)) ∧
    (∀ (c0 : Int) (g : Nat), v = true → ¬ running → valid → w.zeroOffset = some c0 → w.gain = some g →
      let r : CalRecord :=
        { zeroOffset := max (-8388608) (min 8388607 c0), gain := max 1 (min 16777215 g)
          capacity := max 1000 (min 60000 (w.capacity.getD (match id with | .w0 => 15000 | .w1 => 30000)))
          division := division, filterLength := filter
          windowLength := max 5 (min 50 (w.windowLength.getD (match id with | .w0 => 10 | .w1 => 20)))
          motionBand := match w.motionBand with | some b => max 1 (min 500 b) | none => 10 * division
          zeroTracking := match w.zeroTracking with | .given t => t | _ => true
          count := match c.work with | some old => min 65535 (old.count + 1) | none => 1 }
      ∃ t, exec (.calWrite n w v) s = .next t ∧ (t.scale id).state = .calibrating
        ∧ t = { s.setScale id { c with writing := some r, absenceStart := none } with
            link := t.link, pins := { s.pins with sealOpen := v } }
        ∧ t.link.unanswered = s.link.unanswered ++ [.management]) ∧
    exec (.calRead n v) s = .next (replyDone .management .calRead (.calibration
      { c.store.record with count := if c.store.passes then c.store.record.count else 0 } c.store.passes v) taken)) ∧
  (∀ (id : ScaleId) (r : CalRecord) (v : Bool) (s : State), Published s → (s.scale id).writing = some r →
    (id = .w1 → s.w0.writing = none) → ∃ t, exec (.calWriteComplete v) s = .next t
      ∧ t = { s.setScale id { s.scale id with
          store := ⟨r, true⟩, work := some r, writing := none, faulted := false, history := [], window := []
          zeroStatus := .pending, zero := none, zeroInit := none, tare := 0
          railCount := 0, recoveryCount := 0, trackRun := 0, absenceStart := some s.now } with
          link := t.link, pins := { s.pins with sealOpen := v } }
      ∧ Issued ⟨.management, .calWrite, .done (.calibration r true v)⟩ t
      ∧ (.management ∈ s.link.unanswered → s.link.replies = [] → s.link.queue.length + s.link.waiters.length < 15 →
          t.link.unanswered = s.link.unanswered.erase .management))

/-- ZERO, TARE and WEIGHT_READ: each refusal by its tests; an accepted ZERO makes the latest average the zero, 2 % of
capacity from the initial zero at most, an accepted TARE takes the gross, or clears it; WEIGHT_READ changes nothing
(R64, R66, R73).  That a capture pending on W0 refuses W0's own ZERO and TARE and leaves W1's alone is the model's reading
of R64 and R66 (log entry 25). -/
def Obligations.ZeroTareAndWeight : Prop :=
  ∀ (n : Nat) (id : ScaleId) (s : State), s.routes .management = true → Published s →
    n = (match id with | .w0 => 0 | .w1 => 1) →
    let c := s.scale id
    let taken := markUnanswered .management s
    let running := s.sale.state = .opened ∨ s.sale.state = .paying
    let ready (r : CalRecord) := (c.state = .stable ∨ c.state = .nozero ∨ c.state = .under) ∧ c.stable r = true
      ∧ c.tare = 0 ∧ c.capturePending = false ∧ (id = .w1 → running → c.state = .nozero)
    let from0 : Int := if c.zeroStatus = .failed then 0 else c.zeroInit.getD 0
    (∀ m, 2 ≤ m → exec (.zero m) s = .next (replyRefused .management .zero .range taken)
      ∧ exec (.weightRead m) s = .next (replyRefused .management .weightRead .range taken)
      ∧ ∀ op, exec (.tare m op) s = .next (replyRefused .management .tare .range taken)) ∧
    ((∀ r, c.work = some r → ¬ ready r) →
      exec (.zero n) s = .next (replyRefused .management .zero .state taken)) ∧
    (∀ (r : CalRecord) (a : Int), c.work = some r → c.average = a → ready r →
      (r.capacity / 5 < (a - from0).natAbs → exec (.zero n) s = .next (replyRefused .management .zero .range taken)) ∧
      ((a - from0).natAbs ≤ r.capacity / 5 → ∃ t, exec (.zero n) s = .next t
        ∧ t = { s.setScale id { c with zero := some a, zeroStatus := .set, trackRun := 0
                                       zeroInit := if c.zeroStatus = .failed then some a else c.zeroInit } with link := t.link }
        ∧ (t.scale id).state = .stable ∧ (t.scale id).gross = some 0
        ∧ Issued ⟨.management, .zero, .done (.zeroed a .stable 0)⟩ t)) ∧
    (∀ op, 2 ≤ op → exec (.tare n op) s = .next (replyRefused .management .tare .range taken)) ∧
    (c.capturePending = true → ∀ op, op ≤ 1 → exec (.tare n op) s = .next (replyRefused .management .tare .state taken)) ∧
    (c.state ≠ .stable → exec (.tare n 1) s = .next (replyRefused .management .tare .state taken)) ∧
    (∀ g, c.capturePending = false → c.state = .stable → c.gross = some g →
      (g ≤ 0 → exec (.tare n 1) s = .next (replyRefused .management .tare .range taken)) ∧
      (0 < g → exec (.tare n 1) s = .next (replyDone .management .tare (.tareTaken g 0) (taken.setScale id { c with tare := g })))) ∧
    (c.capturePending = false → ∃ x, exec (.tare n 0) s
      = .next (replyDone .management .tare (.tareCleared x) (taken.setScale id { c with tare := 0 }))) ∧
    ∃ p : WeightReport, exec (.weightRead n) s = .next (replyDone .management .weightRead (.weight p) taken)
      ∧ p.state = c.state ∧ p.zeroStatus = c.zeroStatus ∧ p.tare = c.tare ∧ p.capturePending = c.capturePending
      ∧ p.zero = c.zero ∧ p.zeroInit = c.zeroInit ∧ p.average = c.average
      ∧ (∀ r g, c.work = some r → c.gross = some g → (c.state = .stable ∨ c.state = .motion) →
          p.weight = some (roundDiv (g - c.tare) (10 * r.division) * r.division) ∧ p.gross = some (roundDiv g 10)
          ∧ (p.inMotion = true ↔ c.state = .motion))
      ∧ ((c.state ≠ .stable ∧ c.state ≠ .motion) ∨ c.gross = none → p.weight = none ∧ p.gross = none ∧ p.inMotion = false)

/-- The conversion of a sample: the exact product over 2^20, the nearest integer with halves away from zero, clamped to
±1,000,000 (R59). -/
def Obligations.SamplesAreConverted : Prop :=
  ∀ (cal : CalRecord) (r : BitVec 24),
    let p := (r.toInt - cal.zeroOffset) * (cal.gain : Int)
    let f := convert cal r
    f ≤ 1000000 ∧ -1000000 ≤ f
      ∧ (∀ q : Int, -1000000 ≤ q → q ≤ 1000000 → 2 * (p - q * 1048576).natAbs < 1048576 → f = q)
      ∧ (∀ q : Int, 0 ≤ q → q + 1 ≤ 1000000 → p = q * 1048576 + 524288 → f = q + 1)
      ∧ (∀ q : Int, q ≤ 0 → -1000000 ≤ q - 1 → p = q * 1048576 - 524288 → f = q - 1)
      ∧ (1000000 * 1048576 ≤ p → f = 1000000) ∧ (p ≤ -1000000 * 1048576 → f = -1000000)

/-- A sample that is no rail sample on a working channel: the history takes its conversion, the average is the rounded
mean, the rail count is 0 and the absence timer restarts; the other channel is untouched, and a SCALE_STATE that waits takes the
state a change brings.  The hundredth steady average
in a row moves the zero where the initial zero allows it, and the first steady average of a PENDING channel is its initial
zero, or ends in NOZERO beyond a tenth of the capacity.  With a capture pending on W0, a STABLE weight from 20 divisions to
the capacity makes the head READY and ends the capture, and any other reading moves the capture's prompts and its run of
MOTION (R60, R62, R63, R65, R53, R68, R72, R76, R77). -/
def Obligations.SamplesRunTheChain : Prop :=
  ∀ (id : ScaleId) (r : BitVec 24) (cal : CalRecord) (s : State),
    let c := s.scale id
    let h := (c.history ++ [convert cal r]).drop (c.history.length + 1 - cal.filterLength)
    let a := (h.sum + (h.length / 2 : Nat)) / h.length
    let w := (c.window ++ [a]).drop (c.window.length + 1 - cal.windowLength)
    let other : ScaleId := match id with | .w0 => .w1 | .w1 => .w0
    c.writing = none → c.work = some cal → c.faulted = false → r ≠ 0x800000#24 → r ≠ 0x7FFFFF#24 → 1 ≤ cal.filterLength →
    let steady := h.length = cal.filterLength ∧ w.length = cal.windowLength ∧ ∀ x ∈ w, ∀ y ∈ w, x - y ≤ cal.motionBand
    let captures := id = .w0 ∧ s.scan.capture.isSome = true
    (∃ t, exec (.converterSample id r) s = .next t ∧ (t.scale id).history = h ∧ (t.scale id).average = a
      ∧ (t.scale id).window = (if h.length < cal.filterLength then c.window else w) ∧ (t.scale id).railCount = 0
      ∧ (t.scale id).absenceStart = some s.now ∧ (¬ captures → (t.scale id).tare = c.tare) ∧ (t.scale id).work = c.work
      ∧ (t.scale id).store = c.store ∧ t.scale other = s.scale other ∧ t.lane = s.lane ∧ t.cache = s.cache
      ∧ t.drawer = s.drawer ∧ t.composer = s.composer ∧ t.mechanism = s.mechanism ∧ t.card.session = s.card.session
      ∧ (∀ n, Waiter.notice (.scale id) n ∈ s.link.waiters → (t.scale id).state ≠ c.state →
          ∃ x, Notified (.scaleState id (t.scale id).state (t.scale id).zeroStatus c.count x) t)
      ∧ (id = .w0 → t.bagging = s.bagging ∧ t.sale = s.sale) ∧ (¬ captures → t.scan.queue = s.scan.queue)) ∧
    (∀ z zi : Int, c.zeroStatus = .set → c.zero = some z → c.zeroInit = some zi → c.tare = 0 → c.capturePending = false →
      c.trackRun = 99 → cal.zeroTracking = true → (id = .w0 → s.sale.state = .idle ∨ s.sale.state = .opened) →
      steady → (a - z).natAbs ≤ 5 * cal.division →
      ∃ t, exec (.zeroTracking id r) s = .next t ∧ exec (.converterSample id r) s = .next t ∧ (t.scale id).trackRun = 0
        ∧ (t.scale id).zero = some (if (a - zi).natAbs ≤ cal.capacity / 5 then a else z)
        ∧ (t.scale id).zeroInit = some zi ∧ (t.scale id).average = a ∧ t.attention.causes = s.attention.causes
        ∧ t.scale other = s.scale other) ∧
    (c.zeroStatus = .pending → steady → FewWaiting s → ∃ t, exec (.converterSample id r) s = .next t
      ∧ (a.natAbs ≤ cal.capacity → (t.scale id).zeroStatus = .set ∧ (t.scale id).zero = some a ∧ (t.scale id).zeroInit = some a
          ∧ (t.scale id).state = .stable ∧ (t.scale id).gross = some 0 ∧ t.attention.causes = s.attention.causes)
      ∧ (cal.capacity < a.natAbs → (t.scale id).zeroStatus = .failed ∧ (t.scale id).zero = c.zero
          ∧ (t.scale id).zeroInit = c.zeroInit ∧ (t.scale id).state = .nozero
          ∧ Notified (.scaleState id .nozero .failed c.count none) t
          ∧ (let cause : Cause := match id with | .w0 => .produceScaleFault | .w1 => .baggingScaleFault
            t.attention.causes = (if (s.sale.state = .opened ∨ s.sale.state = .paying) ∧ cause ∉ s.attention.causes
              then s.attention.causes ++ [cause] else s.attention.causes))
          ∧ (∀ e rest, captures → s.scan.queue = e :: rest → e.state = .capturePending → (∀ x ∈ rest, x.state ≠ .resolved) →
              t.scan.queue = rest ∧ t.scan.capture = none ∧ t.w0.tare = 0 ∧ t.w0.capturePending = false
              ∧ Notified (.scanRefused e.source e.received .noWeight (if s.sale.state = .idle then 0 else s.sale.number)) t))) ∧
    (∀ (k : Capture) (e : ScanEntry) (rest : List ScanEntry) (z : Int), id = .w0 → s.scan.capture = some k →
      s.scan.queue = e :: rest → c.capturePending = true → c.zeroStatus = .set → c.zero = some z →
      -(200 * cal.division : Int) ≤ a - z → a - z ≤ 10 * (cal.capacity + 9 * cal.division) →
      let weight := roundDiv (a - z - c.tare) (10 * cal.division) * cal.division
      let waiting (x : Capture) (t : State) := exec (.converterSample .w0 r) s = .next t ∧ t.scan.capture = some x
        ∧ t.scan.queue = s.scan.queue ∧ t.w0.tare = c.tare ∧ t.w0.capturePending = true
        ∧ t.attention.causes = s.attention.causes ∧ t.sale = s.sale
      (steady → 20 * (cal.division : Int) ≤ weight → weight ≤ cal.capacity → ∃ t, exec (.converterSample .w0 r) s = .next t
        ∧ t.scan.queue = { e with weight := some weight, state := .ready } :: rest ∧ t.scan.capture = none
        ∧ t.w0.tare = 0 ∧ t.w0.capturePending = false ∧ t.sale = s.sale ∧ t.attention.causes = s.attention.causes
        ∧ ∀ p ∈ t.attention.conditions, p.kind ≠ .waitWeight ∧ p.kind ≠ .placeOnScale) ∧
      (steady → weight < 20 * (cal.division : Int) →
        ∃ t, waiting { k with motionSince := none, placePrompt := true, waitPrompt := false } t
          ∧ (k.placePrompt = false → t.attention.current = some ⟨.placeOnScale, none⟩)) ∧
      (steady → (cal.capacity : Int) < weight →
        ∃ t, waiting { k with motionSince := none, placePrompt := false, waitPrompt := false } t) ∧
      (h.length = cal.filterLength → ¬ steady →
        ∃ t, waiting { k with motionSince := some (k.motionSince.getD s.now), placePrompt := false } t))

/-- Faults of a channel: the third rail sample in a row and the absence timer make it FAULT with its history, window and
counts cleared and its zero references and tare kept, reported by SCALE_STATE, with its cause during a sale; a capture pending on W0 ends with it, the head removed with SCAN_REFUSED(no weight) and no prompt;
the tenth in-range sample ends the fault and is the first conversion (R36, R70, R71, R72, R77). -/
def Obligations.ScaleFaultsAndRecovers : Prop :=
  ∀ (id : ScaleId) (r : BitVec 24) (cal : CalRecord) (s : State),
    let c := s.scale id
    let running := s.sale.state = .opened ∨ s.sale.state = .paying
    let cause : Cause := match id with | .w0 => .produceScaleFault | .w1 => .baggingScaleFault
    let failed : Scale := { c with faulted := true, history := [], window := [], trackRun := 0, railCount := 0
                                   recoveryCount := 0, absenceStart := some s.now }
    let rail := r = 0x800000#24 ∨ r = 0x7FFFFF#24
    let capturing := id = .w0 ∧ s.scan.capture.isSome = true
    c.writing = none → c.work = some cal → FewWaiting s →
    (∀ e : Instr, c.faulted = false →
      (e = .absenceTimerExpiry id ∧ c.absenceStart.isSome = true ∨
        (e = .railFault id r ∨ e = .converterSample id r) ∧ c.railCount = 2 ∧ rail) →
      ∃ t, exec e s = .next t ∧ (t.scale id).state = .fault
        ∧ t.attention.causes = (if running ∧ cause ∉ s.attention.causes then s.attention.causes ++ [cause] else s.attention.causes)
        ∧ Notified (.scaleState id .fault c.zeroStatus c.count none) t
        ∧ (¬ capturing → Shows (s.setScale id failed) t)
        ∧ (∀ x rest, capturing → s.scan.queue = x :: rest → x.state = .capturePending → (∀ y ∈ rest, y.state ≠ .resolved) →
            Shows { s with
              w0 := { failed with tare := 0, capturePending := false }
              scan := { s.scan with queue := rest, capture := none } } t
            ∧ (∀ p ∈ t.attention.conditions, p.kind ≠ .waitWeight ∧ p.kind ≠ .placeOnScale)
            ∧ ((∀ p, s.attention.current = some p → p.kind ≠ .waitWeight ∧ p.kind ≠ .placeOnScale) →
                t.attention.current = s.attention.current)
            ∧ Notified (.scanRefused x.source x.received .noWeight (if s.sale.state = .idle then 0 else s.sale.number)) t)) ∧
    (c.faulted = true → c.absenceStart.isSome = true → exec (.absenceTimerExpiry id) s
      = .next (publish (s.setScale id { c with recoveryCount := 0, absenceStart := some s.now }))) ∧
    (c.faulted = true → rail → Published s → ¬ capturing → exec (.converterSample id r) s
      = .next (s.setScale id { c with recoveryCount := 0, absenceStart := some s.now })) ∧
    (c.faulted = true → c.recoveryCount = 9 → ¬ rail → 2 ≤ cal.filterLength →
      ∃ t, exec (.faultRecovery id r) s = .next t ∧ exec (.converterSample id r) s = .next t
        ∧ t.scale id = { c with faulted := false, history := [convert cal r], window := [], average := convert cal r
                                trackRun := 0, railCount := 0, recoveryCount := 0, absenceStart := some s.now }
        ∧ (t.scale id).state = .warmup ∧ t.attention.causes = s.attention.causes
        ∧ Notified (.scaleState id .warmup c.zeroStatus c.count none) t)

/-! ## The sale record (chapter 1) -/

/-- Every step keeps the sale's lines consistent: at most 120, numbered from 1, the item total within 0 to 99,999,999,
every VOID line the exact negation of one earlier ITEM or WEIGHED line, which no other VOID line names (R4, R15). -/
def Obligations.StepsKeepSaleConsistent : Prop :=
  ∀ s t : State, SaleConsistent s → step s = .next t → SaleConsistent t

/-- The order of paying and of pulses, for every command but the bytes of whole frames (whose requests are these
commands): a sale goes from OPEN to PAYING only with no line in AWAIT, the hold clear and the scan queue empty (R12),
and the solenoid comes on only with the sale IDLE or SETTLED and the hold clear (R120). -/
def Obligations.PayingAndPulsesAreGuarded : Prop :=
  ∀ (c : Instr) (s t : State), (∀ bs v, c ≠ .frameReceived bs v ∧ c ≠ .frameDropped bs) → exec c s = .next t →
    (s.sale.state = .opened → t.sale.state = .paying →
      (∀ l ∈ s.sale.lines, l.bag ≠ .await) ∧ s.attention.causes = [] ∧ s.scan.queue = []) ∧
    (s.drawer.state ≠ .pulsing → t.drawer.state = .pulsing →
      (t.sale.state = .idle ∨ t.sale.state = .settled) ∧ t.attention.causes = [])

/-- BEGIN_PAYMENT and RESUME_SCANNING: BUSY while a cancel is pending, STATE where a condition fails; a balance above 0
makes the sale PAYING, and a pre-read then starts its payment, the request for the whole balance; a balance of 0 settles
the sale; RESUME_SCANNING makes it OPEN again (R12, R13, R104, R105, R106). -/
def Obligations.BeginPaymentAndResume : Prop :=
  ∀ s : State, s.routes .sale = true → s.lane.ready = true → Published s →
    let taken := markUnanswered .sale s
    let balance := (totals s.sale.lines).balance
    let pending := s.sale.state ≠ .idle ∧ s.sale.cancelPending = true
    let inFlight := s.card.session.state = .checked ∨ s.card.session.state = .awaitResult ∨ s.card.session.state = .cancelAsked
    let allowed := s.sale.state = .opened ∧ (∀ l ∈ s.sale.lines, l.bag ≠ .await) ∧ s.attention.causes = [] ∧ s.scan.queue = []
    let resumable := s.sale.state = .paying ∧ (∀ l ∈ s.sale.lines, l.kind ≠ .cardTender ∧ l.kind ≠ .cashTender) ∧ ¬ inFlight
    (pending → exec .beginPayment s = .next (replyRefused .sale .beginPayment .busy taken)
      ∧ exec .resumeScanning s = .next (replyRefused .sale .resumeScanning .busy taken)) ∧
    (¬ pending → ¬ allowed → exec .beginPayment s = .next (replyRefused .sale .beginPayment .state taken)) ∧
    (¬ pending → ¬ resumable → exec .resumeScanning s = .next (replyRefused .sale .resumeScanning .state taken)) ∧
    (¬ pending → resumable → FewWaiting s → ∃ t, exec .resumeScanning s = .next t
      ∧ t = { s with link := t.link, sale := { s.sale with state := .opened } }
      ∧ Notified (.saleState .opened s.sale.number .resumed (totals s.sale.lines) s.sale.change) t
      ∧ Issued ⟨.sale, .resumeScanning, .done .none⟩ t) ∧
    (¬ pending → allowed → 0 < balance → s.card.session.state ≠ .preRead → FewWaiting s →
      ∃ t, exec .beginPayment s = .next t ∧ t = { s with link := t.link, sale := { s.sale with state := .paying } }
        ∧ Notified (.saleState .paying s.sale.number .paying (totals s.sale.lines) s.sale.change) t
        ∧ Issued ⟨.sale, .beginPayment, .done (.payment .paying balance)⟩ t) ∧
    (∀ (f : CardFace) (d : FullData), ¬ pending → allowed → 0 < balance → s.card.session.state = .preRead →
      s.card.session.face = some f → s.card.session.full = some d → s.link.waiters = [] → s.link.queue.length ≤ 14 →
      (s.sale.lines.filter fun l => l.kind == .cardTender).length < 4 → s.sale.lines.length < 120 → s.card.attempts < 255 →
      let p : Payment := ⟨balance.toNat, (s.sale.lines.filter fun l => l.kind == .cardTender).length + 1, s.card.attempts + 1⟩
      ∃ t, exec .beginPayment s = .next t ∧ t.sale = { s.sale with state := .paying }
        ∧ t.card.session = ⟨.awaitResult, some f, s.card.session.cardInReader, some d, some p, none,
            some (s.now + BitVec.ofNat 32 s.lane.config.paymentLimit)⟩
        ∧ t.card.attempts = s.card.attempts + 1 ∧ t.attention.causes = [] ∧ t.drawer = s.drawer ∧ t.bagging = s.bagging
        ∧ Notified (.paymentRequest ⟨s.sale.number, p.attempt, p.tenderIndex, p.requested, f.route, f.mode, d⟩) t
        ∧ Issued ⟨.sale, .beginPayment, .done (.payment .paying balance)⟩ t) ∧
    (¬ pending → allowed → balance = 0 → s.card.session.state ≠ .preRead → s.composer.jobs.length < 8 →
      s.sale.receiptSuppressed = false → FewWaiting s → s.cache.work = [] → s.cache.waiting = false →
      ∃ t, exec .beginPayment s = .next t ∧ t.sale.state = .settled ∧ t.sale.change = 0 ∧ t.sale.lines = s.sale.lines
        ∧ t.sale.receipt = .queued ∧ t.bagging.state = .suspended)

/-- VOID_LINE and DISCOUNT: the first test of their tables that holds decides the refusal; an accepted void appends a
VOID line that negates its target, marks the target voided and, for a line in AWAIT or BAGGED, tells the bagging check,
in OPEN and in PAYING, where one that leaves a balance of 0 settles the sale; an accepted discount appends a DISCOUNT line
clamped so that the item total stays at 0 or above (R14, R15, R16, R19, R20, R89). -/
def Obligations.VoidsAndDiscounts : Prop :=
  ∀ s : State, s.routes .sale = true → s.lane.ready = true → Published s →
    let taken := markUnanswered .sale s
    let ls := s.sale.lines
    let tendered := ∃ l ∈ ls, l.kind = .cardTender ∨ l.kind = .cashTender
    let pending := s.sale.state ≠ .idle ∧ s.sale.cancelPending = true
    let inFlight := s.card.session.state = .checked ∨ s.card.session.state = .awaitResult ∨ s.card.session.state = .cancelAsked
    let voidable (l : SaleLine) := (l.kind = .item ∨ l.kind = .weighed) ∧ l.voided = false
    let open_ := s.sale.state = .opened ∨ (s.sale.state = .paying ∧ ¬ tendered)
    let refuseVoid (n : Nat) (r : Reason) := exec (.voidLine n) s = .next (replyRefused .sale .voidLine r taken)
    let refuseDiscount (x : Nat) (txt : Text) (o : Option Nat) (r : Reason) :=
      exec (.discount x txt o) s = .next (replyRefused .sale .discount r taken)
    (∀ n, ¬ open_ → refuseVoid n .state) ∧
    (∀ n, open_ → (pending ∨ inFlight) → refuseVoid n .busy) ∧
    (∀ n, open_ → ¬ pending → ¬ inFlight → (n = 0 ∨ ∀ l, ls[n - 1]? = some l → ¬ voidable l) → refuseVoid n .notFound) ∧
    (∀ n l, open_ → ¬ pending → ¬ inFlight → n ≠ 0 → ls[n - 1]? = some l → voidable l → l.number = n →
      let held := l.bag = .bagged ∧ s.bagging.state ≠ .idle ∧ s.bagging.state ≠ .off
      let v : SaleLine := { number := ls.length + 1, kind := .void, code := l.code, description := l.description
                            amount := -l.amount, target := some n }
      (held → refuseVoid n .busy) ∧
      (¬ held → 120 ≤ ls.length → refuseVoid n .full) ∧
      (¬ held → ls.length < 120 → itemTotal ls - l.amount < 0 → refuseVoid n .range) ∧
      (¬ held → ls.length < 120 → itemTotal ls = l.amount → s.sale.state = .paying → s.composer.jobs.length < 8 →
        s.sale.receiptSuppressed = false → FewWaiting s → ∃ (l' : SaleLine) (t : State), exec (.voidLine n) s = .next t
          ∧ l' = { l with voided := true, bag := if l.bag = .await ∨ (l.bag = .bagged ∧ s.bagging.state = .idle)
                    then .notRequired else l.bag }
          ∧ t.sale.lines = (ls.set (n - 1) l' ++ [v]).map (fun y => if y.bag = .await then { y with bag := .notRequired } else y)
          ∧ t.sale.state = .settled ∧ t.sale.change = 0 ∧ t.sale.number = s.sale.number ∧ t.sale.receipt = .queued
          ∧ t.bagging.state = .suspended ∧ t.bagging.expectation = none
          ∧ (s.drawer.pendingOpen = false → t.drawer.state = s.drawer.state)
          ∧ Notified (.lineAdded v (totals t.sale.lines)) t
          ∧ Notified (.saleState .settled s.sale.number .settled (totals t.sale.lines) 0) t
          ∧ Issued ⟨.sale, .voidLine, .done (.voided (ls.length + 1) (totals t.sale.lines))⟩ t) ∧
      (¬ held → ls.length < 120 → 0 ≤ itemTotal ls - l.amount → (s.sale.state = .paying → itemTotal ls ≠ l.amount) → FewWaiting s →
        ∃ t, exec (.voidLine n) s = .next t
          ∧ Shows { s with bagging := t.bagging, sale := { s.sale with lines := t.sale.lines } } t
          ∧ t.attention.causes = s.attention.causes
          ∧ (∃ l', t.sale.lines = ls.set (n - 1) l' ++ [v] ∧ l'.voided = true ∧ l' = { l with voided := true, bag := l'.bag }
            ∧ (l.bag = .await → l'.bag = .notRequired ∧ t.bagging.state = .idle ∧ t.bagging.expectation = none
                ∧ t.bagging.baseline = s.bagging.baseline)
            ∧ (l.bag = .bagged → s.bagging.state = .idle → l'.bag = .await ∧ t.bagging.state = .awaitRemove
                ∧ t.bagging.baseline = s.bagging.baseline
                ∧ ∃ e, t.bagging.expectation = some e ∧ e.line = n ∧ e.direction = .remove ∧ e.change = l.expected.getD 0
                    ∧ e.tolerance = l.tolerance.getD 0 ∧ e.timerStart = some s.now)
            ∧ (l.bag = .bagged → s.bagging.state = .off → l'.bag = .bagged ∧ t.bagging = s.bagging)
            ∧ (l.bag = .skipped ∨ l.bag = .notRequired ∨ l.bag = .none → l'.bag = l.bag ∧ t.bagging = s.bagging))
          ∧ Notified (.lineAdded v (totals t.sale.lines)) t
          ∧ Issued ⟨.sale, .voidLine, .done (.voided (ls.length + 1) (totals t.sale.lines))⟩ t)) ∧
    (∀ x txt o, pending → refuseDiscount x txt o .busy) ∧
    (∀ x txt o, ¬ pending → s.sale.state ≠ .opened → refuseDiscount x txt o .state) ∧
    (∀ x txt o, ¬ pending → s.sale.state = .opened → (x = 0 ∨ 9999999 < x) → refuseDiscount x txt o .range) ∧
    (∀ x txt n, ¬ pending → s.sale.state = .opened → 1 ≤ x → x ≤ 9999999 →
      (n = 0 ∨ ∀ l, ls[n - 1]? = some l → ¬ voidable l) → refuseDiscount x txt (some n) .notFound) ∧
    (∀ x txt o, ¬ pending → s.sale.state = .opened → 1 ≤ x → x ≤ 9999999 →
      (∀ n ∈ o, n ≠ 0 ∧ ∃ l, ls[n - 1]? = some l ∧ voidable l) →
      (120 ≤ ls.length → refuseDiscount x txt o .full) ∧
      (ls.length < 120 → FewWaiting s → ∃ (l : SaleLine) (t : State), exec (.discount x txt o) s = .next t
        ∧ l = { number := ls.length + 1, kind := .discount, code := l.code, description := txt.take 24, target := o
                amount := -(min (x : Int) (max 0 (itemTotal ls))) }
        ∧ (∀ n ∈ o, l.code = (ls[n - 1]?).bind SaleLine.code) ∧ (o = none → l.code = none)
        ∧ Shows { s with sale := { s.sale with lines := ls ++ [l] } } t ∧ t.attention.causes = s.attention.causes
        ∧ Notified (.lineAdded l (totals (ls ++ [l]))) t
        ∧ Issued ⟨.sale, .discount, .done (.line (ls.length + 1) l.amount (totals (ls ++ [l])))⟩ t))

/-- CASH_TENDER: STATE, BUSY, RANGE and FULL in that order; an accepted one appends its line, and where the balance is
then 0 or below the sale settles with the change, the till takes cash and change, the receipt is queued, and a release
that the policy asks for, or a pending open, pulses in the same event (R17, R19, R20, R125, R126, R129). -/
def Obligations.CashTenderPaysAndSettles : Prop :=
  ∀ (x : Nat) (s : State), s.routes .sale = true → s.lane.ready = true → Published s →
    let taken := markUnanswered .sale s
    let ls := s.sale.lines
    let busy := s.sale.cancelPending = true ∨ s.card.session.state = .checked ∨ s.card.session.state = .awaitResult
      ∨ s.card.session.state = .cancelAsked
    let l : SaleLine := { number := ls.length + 1, kind := .cashTender, description := [0x43, 0x41, 0x53, 0x48], amount := x }
    let new := totals (ls ++ [l])
    let refuse (r : Reason) := exec (.cashTender x) s = .next (replyRefused .sale .cashTender r taken)
    (s.sale.state ≠ .paying → refuse .state) ∧
    (s.sale.state = .paying → busy → refuse .busy) ∧
    (s.sale.state = .paying → ¬ busy → (x = 0 ∨ 99999999 < x) → refuse .range) ∧
    (s.sale.state = .paying → ¬ busy → 1 ≤ x → x ≤ 99999999 → 120 ≤ ls.length → refuse .full) ∧
    (s.sale.state = .paying → ¬ busy → 1 ≤ x → x ≤ 99999999 → ls.length < 120 → FewWaiting s →
      (0 < new.balance → ∃ t, exec (.cashTender x) s = .next t
        ∧ Shows { s with sale := { s.sale with lines := ls ++ [l] } } t ∧ t.attention.causes = s.attention.causes
        ∧ Notified (.lineAdded l new) t
        ∧ Issued ⟨.sale, .cashTender, .done (.cash (ls.length + 1) new.tender new.balance none)⟩ t) ∧
      (new.balance ≤ 0 → s.composer.jobs.length < 8 → s.sale.receiptSuppressed = false →
        ∃ t, exec (.cashTender x) s = .next t ∧ t.sale.state = .settled ∧ t.sale.change = -new.balance
          ∧ t.sale.number = s.sale.number ∧ t.sale.receipt = .queued ∧ t.bagging.state = .suspended
          ∧ t.sale.lines = (ls ++ [l]).map (fun y : SaleLine => if y.bag = .await then { y with bag := .notRequired } else y)
          ∧ t.drawer.till.cashTaken = min 4294967295 (s.drawer.till.cashTaken
              + ((ls ++ [l]).map fun y : SaleLine => if y.kind = .cashTender then y.amount else 0).sum.toNat)
          ∧ t.drawer.till.changeGiven = min 4294967295 (s.drawer.till.changeGiven + (-new.balance).toNat)
          ∧ (s.lane.config.drawerPolicy = .manualOnly → s.drawer.pendingOpen = false → t.drawer.state = s.drawer.state)
          ∧ (∀ n o, s.lane.config.drawerPolicy = .manualOnly → s.drawer.state = .closed → s.drawer.pendingOpen = true →
              s.drawer.attempt = some n → s.drawer.origin = some o → s.attention.causes = [] →
              t.drawer.state = .pulsing ∧ t.drawer.attempt = some n ∧ t.drawer.origin = some o)
          ∧ (s.drawer.state = .closed → s.attention.causes = [] →
              (s.lane.config.drawerPolicy = .onAnyCash ∨ s.lane.config.drawerPolicy = .onChangeDue ∧ new.balance < 0) →
              t.drawer.state = .pulsing ∧ t.drawer.attempt = some 1 ∧ t.drawer.origin = some .settle)
          ∧ Issued ⟨.sale, .cashTender, .done (.cash (ls.length + 1) new.tender new.balance (some (-new.balance)))⟩ t))

/-- CANCEL_SALE discards the sale at once, or, with the result of a payment awaited, asks for its cancel and waits;
NO_RECEIPT marks the sale before settlement; SALE_READ answers with the record and the lines asked for, and changes
nothing (R22, R23, R111, R20, R25).  The totals 0 and the ended sale's number in SALE_STATE of a discard are the model's
reading (log entry 30), and RANGE before NOT_FOUND of LAST its choice (log entry 18). -/
def Obligations.CancelNoReceiptAndRead : Prop :=
  ∀ s : State, s.routes .sale = true → s.lane.ready = true → Published s →
    let taken := markUnanswered .sale s
    let ls := s.sale.lines
    let tendered := ∃ l ∈ ls, l.kind = .cardTender ∨ l.kind = .cashTender
    let running := s.sale.state = .opened ∨ s.sale.state = .paying
    let inFlight := s.card.session.state = .checked ∨ s.card.session.state = .awaitResult ∨ s.card.session.state = .cancelAsked
    (¬ running ∨ tendered → exec .cancelSale s = .next (replyRefused .sale .cancelSale .state taken)) ∧
    (running → ¬ tendered → s.sale.cancelPending = true →
      exec .cancelSale s = .next (replyRefused .sale .cancelSale .busy taken)) ∧
    (running → ¬ tendered → s.sale.cancelPending = false → ¬ inFlight → FewWaiting s → ∃ t, exec .cancelSale s = .next t
      ∧ t.sale = { s.sale with state := .idle, lines := [] } ∧ t.scan.queue = [] ∧ t.scan.lookups = [] ∧ t.scan.capture = none
      ∧ t.bagging.state = .suspended ∧ t.bagging.expectation = none ∧ t.card.session.full = none ∧ t.lastSale = s.lastSale
      ∧ ((s.card.session.state = .noCard → s.card.session.payment = none) → t.card.session
          = ⟨if s.card.session.cardInReader then .done else .noCard, none, s.card.session.cardInReader, none, none, none, none⟩)
      ∧ ((s.drawer.pendingOpen = false ∨ s.drawer.state ≠ .closed ∨ s.attention.causes ≠ []) → t.drawer = s.drawer)
      ∧ (∀ n o, s.drawer.state = .closed → s.drawer.pendingOpen = true → s.drawer.attempt = some n → s.drawer.origin = some o →
          s.attention.causes = [] → t.drawer = { s.drawer with
            state := .pulsing, pendingOpen := false, openingDeadline := none
            pulseDeadline := some (s.now + BitVec.ofNat 32 s.lane.config.pulseLength) })
      ∧ t.cache = s.cache ∧ t.composer = s.composer ∧ t.attention.causes = s.attention.causes
      ∧ Notified (.saleState .idle s.sale.number .cancelled ⟨0, 0, 0⟩ s.sale.change) t
      ∧ Issued ⟨.sale, .cancelSale, .done (.cancelled false)⟩ t) ∧
    (∀ p, running → ¬ tendered → s.sale.cancelPending = false → s.card.session.state = .awaitResult →
      s.card.session.payment = some p → FewWaiting s → ∃ t, exec .cancelSale s = .next t
      ∧ t = { s with link := t.link, sale := { s.sale with cancelPending := true }
                     card := { s.card with session := { s.card.session with
                       state := .cancelAsked, cancelOrigin := some .sale, full := none } } }
      ∧ Notified (.paymentCancel s.sale.number p.attempt) t ∧ Issued ⟨.sale, .cancelSale, .done (.cancelled true)⟩ t) ∧
    (s.sale.state = .idle → exec .noReceipt s = .next (replyRefused .sale .noReceipt .state taken)) ∧
    (running → exec .noReceipt s = .next (replyDone .sale .noReceipt .none
      { taken with sale := { s.sale with receiptSuppressed := true } })) ∧
    (∀ p, s.sale.state = .settled → s.sale.receipt = .waitingRoom → s.sale.claim = some p → p.slips ≠ [] →
      exec .noReceipt s = .next (replyDone .sale .noReceipt (.receiptParts (some ⟨false, p.slips⟩))
        { taken with sale := { s.sale with claim := some ⟨false, p.slips⟩ } })) ∧
    (∀ w first count, 120 < first ∨ 8 < count →
      exec (.saleRead w first count) s = .next (replyRefused .sale .saleRead .range taken)) ∧
    (∀ first count, first ≤ 120 → count ≤ 8 →
      exec (.saleRead .current first count) s = .next (replyDone .sale .saleRead (.saleRead
        { state := s.sale.state, number := s.sale.number, lineCount := ls.length, totals := totals ls
          change := if s.sale.state = .idle then 0 else s.sale.change
          receipt := if s.sale.state = .idle then .none else s.sale.receipt
          cancelPending := s.sale.state != .idle && s.sale.cancelPending }
        (if first = 0 then [] else (ls.drop (first - 1)).take count)) taken)
      ∧ (s.lastSale = none → exec (.saleRead .last first count) s = .next (replyRefused .sale .saleRead .notFound taken))
      ∧ (∀ x, s.lastSale = some x → ∃ h, exec (.saleRead .last first count) s = .next (replyDone .sale .saleRead
          (.saleRead h (if first = 0 then [] else (x.lines.drop (first - 1)).take count)) taken)
        ∧ h.state = x.state ∧ h.number = x.number ∧ h.lineCount = x.lines.length ∧ h.totals = totals x.lines))

/-! ## The bagging check (chapter 4) -/

/-- SKIP_BAG: STATE outside AWAIT_ADD; STATE with the cause SKIP_LIMIT at the skip limit; else the awaiting line is
SKIPPED, the skip count goes up by 1 and the check is IDLE with its baseline unchanged (R88). -/
def Obligations.SkipBagSkipsTheAwaitingLine : Prop :=
  ∀ s : State, s.routes .sale = true → Published s → FewWaiting s →
    let taken := markUnanswered .sale s
    let b := s.bagging
    (s.lane.ready = false ∨ b.state ≠ .awaitAdd → exec .skipBag s = .next (replyRefused .sale .skipBag .state taken)) ∧
    (∀ e, s.lane.ready = true → b.state = .awaitAdd → b.expectation = some e →
      (b.skips = s.lane.config.skipLimit → ∃ t, exec .skipBag s = .next t ∧ Shows s t
        ∧ t.attention.causes = (if Cause.skipLimit ∈ s.attention.causes then s.attention.causes else s.attention.causes ++ [.skipLimit])
        ∧ (s.attention.causes = [] → t.attention.primary
            = some ⟨s.now, if s.sale.state = .idle then 0 else s.sale.number, e.line, none, false⟩)
        ∧ Issued ⟨.sale, .skipBag, .refused .state⟩ t) ∧
      (b.skips ≠ s.lane.config.skipLimit → ∃ t, exec .skipBag s = .next t
        ∧ Shows { s with
            bagging := { b with state := .idle, expectation := none, deviationStart := none, delta := none
                                promptRaised := false, causeRaised := false, skips := b.skips + 1 }
            sale := { s.sale with lines := modifyLine s.sale.lines e.line fun l => { l with bag := .skipped } } } t
        ∧ t.attention.causes = s.attention.causes
        ∧ (∀ p ∈ t.attention.conditions, p.kind ≠ .placeItem ∧ p.kind ≠ .weightMismatch)
        ∧ Notified (.bagCheck ⟨.idle, b.baseline, none, none, b.skips + 1, [(e.line, .skipped)]⟩) t
        ∧ Issued ⟨.sale, .skipBag, .done (.skipped e.line (b.skips + 1))⟩ t))

/-- The timers of the bagging check: with prompts enabled the place and mismatch prompt timers raise PLACE_ITEM and
WEIGHT_MISMATCH once; with prompts disabled these are promoted to BAG_TIMEOUT and BAG_MISMATCH, reported by a PROMPT
marked promoted, and the prompt slot stays as it was; the attention timers raise BAG_TIMEOUT, BAG_MISMATCH and
UNEXPECTED_ITEM with their line and difference, unless the check has raised one already, by a promotion too (R84, R85,
R87, R167).  That the promoted PROMPT carries the promoted prompt is the model's choice (log entry 20). -/
def Obligations.BaggingTimersExpire : Prop :=
  ∀ (e : Expectation) (s : State),
    let b := s.bagging
    let saleNo := if s.sale.state = .idle then 0 else s.sale.number
    let raised (c : Instr) (x : Cause) (line : Nat) (d : Option Int) (mark : Bool) (t : State) := exec c s = .next t
      ∧ Shows { s with bagging := { b with promptRaised := mark, causeRaised := true } } t
      ∧ t.attention.causes = (if x ∈ s.attention.causes then s.attention.causes else s.attention.causes ++ [x])
      ∧ (s.attention.causes = [] → t.attention.primary = some ⟨s.now, saleNo, line, d, false⟩)
    let shown (c : Instr) (p : Prompt) := ∃ t, exec c s = .next t
      ∧ Shows { s with bagging := { b with promptRaised := true } } t
      ∧ t.attention.causes = s.attention.causes ∧ t.attention.current = some p ∧ p ∈ t.attention.conditions
    let promoted (c : Instr) (p : Prompt) (x : Cause) (line : Nat) (d : Option Int) := b.promptRaised = false →
      s.lane.config.promptsEnabled = false →
      (b.causeRaised = false → ∃ t, raised c x line d true t
        ∧ t.attention.current = s.attention.current ∧ t.attention.conditions = s.attention.conditions
        ∧ (FewWaiting s → Notified (.prompt ⟨some p, p.kind.isEvent, .promoted, saleNo, s.attention.conditions⟩) t)) ∧
      (b.causeRaised = true → exec c s = .next { s with bagging := { b with promptRaised := true } })
    let detail : Option Int := e.latest.bind fun g => b.baseline.map fun base => g - base
    (b.expectation = some e → e.timerStart.isSome = true →
      (b.promptRaised = false → s.lane.config.promptsEnabled = true → shown .placeTimerExpiry ⟨.placeItem, some e.direction⟩) ∧
      promoted .placeTimerExpiry ⟨.placeItem, some e.direction⟩ .bagTimeout e.line detail ∧
      (b.causeRaised = false → ∃ t, raised .bagAttentionTimerExpiry .bagTimeout e.line detail b.promptRaised t) ∧
      (b.causeRaised = true → exec .bagAttentionTimerExpiry s = .next s)) ∧
    (b.state = .mismatch → b.expectation = some e →
      (b.promptRaised = false → s.lane.config.promptsEnabled = true → shown .mismatchPromptTimerExpiry ⟨.weightMismatch, none⟩) ∧
      promoted .mismatchPromptTimerExpiry ⟨.weightMismatch, none⟩ .bagMismatch e.line b.delta ∧
      (b.causeRaised = false → ∃ t, raised .mismatchAttentionTimerExpiry .bagMismatch e.line b.delta b.promptRaised t) ∧
      (b.causeRaised = true → exec .mismatchAttentionTimerExpiry s = .next s)) ∧
    (b.state = .unexpected →
      (b.causeRaised = false → ∃ t, raised .unexpectedTimerExpiry .unexpectedItem 0 b.delta b.promptRaised t) ∧
      (b.causeRaised = true → exec .unexpectedTimerExpiry s = .next s))

/-- What a stable gross of W1 does: in SUSPENDED and OFF it becomes the baseline; in AWAIT_ADD and AWAIT_REMOVE one
inside the window is accepted, one near the baseline changes nothing, and any other is a MISMATCH, which ends inside the
window or back at the baseline; in IDLE one away from the baseline is UNEXPECTED until it returns.  While the baseline is
unset in IDLE or an expectation state the first one sets it, and with it the window of the expectation, and is not tested.
Every sample of W1 hands the check the gross of a STABLE reading, and nothing otherwise (R80, R81, R83, R85, R86, R87). -/
def Obligations.StableGrossesAreChecked : Prop :=
  ∀ (g base : Int) (e : Expectation) (s : State), FewWaiting s →
    let b := s.bagging
    let t := stableGross g s
    let u : Int := s.lane.config.unexpected
    let awaits := b.state = .awaitAdd ∨ b.state = .awaitRemove
    let inside := (e.change ≠ 0 ∧ ∃ lo hi, e.window = some (lo, hi) ∧ lo ≤ g ∧ g ≤ hi)
      ∨ (e.change = 0 ∧ e.direction = .add ∧ u ≤ g - base) ∨ (e.change = 0 ∧ e.direction = .remove ∧ u ≤ base - g)
    let still := (e.change ≠ 0 ∧ (g - base).natAbs ≤ e.tolerance) ∨ (e.change = 0 ∧ (g - base).natAbs < u)
    (∀ r, ∃ v, exec (.converterSample .w1 r) s = .next v
      ∧ Shows { s with w1 := v.w1, bagging := v.bagging, sale := v.sale } v
      ∧ (v.w1.state ≠ .stable → v.bagging = s.bagging ∧ v.sale = s.sale)
      ∧ ∀ x, v.w1.state = .stable → v.w1.stableGross = some x →
          v.bagging = (stableGross x s).bagging ∧ v.sale = (stableGross x s).sale) ∧
    (b.state = .suspended ∨ b.state = .off → t = { s with bagging := { b with baseline := some g } }) ∧
    (b.baseline = none → (b.state = .idle ∨ awaits) → t = { s with bagging := { b with
      baseline := some g
      expectation := b.expectation.map fun x => { x with
        latest := some g
        window := if x.change = 0 then none else match x.direction with
          | .add => some (g + x.change - x.tolerance, g + x.change + x.tolerance)
          | .remove => some (g - x.change - x.tolerance, g - x.change + x.tolerance) } } }) ∧
    (b.baseline = some base → b.expectation = some e → (awaits ∨ b.state = .mismatch) →
      (inside → Shows { s with bagging := t.bagging, sale := { s.sale with lines := t.sale.lines } } t
        ∧ t.bagging = { b with state := .idle, baseline := some g, expectation := none, deviationStart := none, delta := none
                               promptRaised := false, causeRaised := false }
        ∧ t.attention.causes = s.attention.causes
        ∧ t.sale.lines = modifyLine s.sale.lines e.line (fun l => { l with
            bag := match e.direction with | .add => .bagged | .remove => .notRequired
            expected := if e.change = 0 ∧ e.direction = .add then some (g - base) else l.expected })
        ∧ Notified (.lineBagged e.line e.direction (match e.direction with | .add => .bagged | .remove => .notRequired) (g - base)
            false (if e.change = 0 ∧ e.direction = .add then some (g - base) else none)) t) ∧
      (¬ inside → awaits → still → t = { s with bagging := { b with expectation := some { e with latest := some g } } }) ∧
      (¬ inside → awaits → ¬ still → Shows { s with bagging := t.bagging } t ∧ t.attention.causes = s.attention.causes
        ∧ t.bagging = { b with state := .mismatch, expectation := some { e with latest := some g, timerStart := none }
                               deviationStart := some s.now, delta := some (g - base), promptRaised := false, causeRaised := false }) ∧
      (¬ inside → b.state = .mismatch → (g - base).natAbs ≤ e.tolerance →
        Shows { s with bagging := t.bagging } t ∧ t.attention.causes = s.attention.causes
        ∧ t.bagging = { b with state := match e.direction with | .add => .awaitAdd | .remove => .awaitRemove
                               expectation := some { e with latest := some g, timerStart := some s.now }
                               deviationStart := none, delta := none, promptRaised := false, causeRaised := false }) ∧
      (¬ inside → b.state = .mismatch → e.tolerance < (g - base).natAbs →
        t = { s with bagging := { b with expectation := some { e with latest := some g }, delta := some (g - base) } })) ∧
    (b.baseline = some base → b.expectation = none → b.state = .idle →
      (((g - base).natAbs : Int) ≤ u → t = s) ∧
      (u < (g - base).natAbs → Shows { s with bagging := t.bagging } t ∧ t.attention = s.attention
        ∧ t.bagging = { b with state := .unexpected, deviationStart := some s.now, delta := some (g - base)
                               promptRaised := false, causeRaised := false })) ∧
    (b.baseline = some base → b.expectation = none → b.state = .unexpected →
      (((g - base).natAbs : Int) ≤ u → t.bagging = { b with
        state := .idle, expectation := none, deviationStart := none, delta := none, promptRaised := false, causeRaised := false }) ∧
      (u < (g - base).natAbs → t = { s with bagging := { b with delta := some (g - base) } }))

/-! ## Attention and prompts (chapter 9) -/

/-- A raise of a cause: nothing where it is listed; into an empty list it becomes the primary with its context; else it
joins the end and the primary stays.  Each joining queues ATTENTION; the list never holds a cause twice, and the hold is
set exactly when it is not empty.  The rest text follows at once: ATTENDANT, CLOSED in an UNCONFIGURED lane; it is sent where
that changes the selection while the prompt slot is empty, and sends nothing while a prompt is current (R163, R168). -/
def Obligations.CausesAreRaisedInOrder : Prop :=
  ∀ (c : Cause) (line : Nat) (d : Option Int) (s : State),
    let t := raiseCause c line d s
    (s.attention.hold = true ↔ s.attention.causes ≠ []) ∧
    (s.attention.causes.Nodup → t.attention.causes.Nodup) ∧
    (c ∈ s.attention.causes → t = s) ∧
    (c ∉ s.attention.causes →
      let rest : RestText := if s.lane.ready = true then .attendant else .closed
      let row (x : Text) : List Byte := x.take 20 ++ List.replicate (20 - x.length) 0x20#8
      let message : List Byte := [0x54#8, 0x0F#8] ++ row s.lane.promptTexts[(15 : Fin 16)].1 ++ row s.lane.promptTexts[(15 : Fin 16)].2
      let display := s.bus.channels[(2 : ChannelId)]
      t = { s with link := t.link, bus := { s.bus with channels := t.bus.channels }, attention := { s.attention with
        rest := rest
        displayWaiting := t.attention.displayWaiting
        causes := s.attention.causes ++ [c]
        primary := if s.attention.causes = [] then some ⟨s.now, if s.sale.state = .idle then 0 else s.sale.number, line, d, false⟩
          else s.attention.primary
        age := if c = .ageCheck then some ⟨if s.sale.state = .idle then 0 else s.sale.number, line⟩ else s.attention.age } }
      ∧ t.attention.hold = true
      ∧ (s.attention.current ≠ none ∨ s.attention.rest = rest →
          t.bus = s.bus ∧ t.attention.displayWaiting = s.attention.displayWaiting)
      ∧ (s.lane.ready = true → s.attention.current = none → s.attention.rest ≠ rest → display.present = true →
          (∃ i : Fin 16, s.bus.slots[i] = .assigned 2 .data) →
          (s.attention.displayWaiting = none → display.transmit.length < 4 →
            t.bus.channels = s.bus.channels.set 2 { display with transmit := display.transmit ++ [.bytes message] }
              ∧ t.attention.displayWaiting = none) ∧
          (s.attention.displayWaiting ≠ none ∨ 4 ≤ display.transmit.length →
            t.bus = s.bus ∧ t.attention.displayWaiting = some message))
      ∧ (FewWaiting s → Notified (.attention ⟨t.attention.causes, t.attention.primary, t.attention.age, true⟩) t))

/-- CLEAR_ATTENTION: RANGE, STALE and STATE in that order; an accepted clearance takes the cause from the list, the next
one becoming the primary with its context lost, the owning block takes the action's effect, a pending open that the emptied
list lets pulse does, and the reply carries the list and the hold.  ACCEPT_WEIGHT, ITEM_REMOVED and BAGGING_OFF act on the
bagging check and its lines, REFUSED voids the age-restricted line, ACKNOWLEDGE retries a jammed drawer and clears the fault
latch of the mechanism.  The end of an event prompt brings back the latest condition prompt, or empties the slot (R90, R91,
R92, R125, R128, R158, R165, R169, R170, R171, R172).  Clearances while the check's baseline is unset are the model's reading
(log entry 21), and so is that ACKNOWLEDGE of PRINTER_FAULT keeps the repeat cut mark while the repeat cut runs (log entry
28). -/
def Obligations.CausesAreClearedAndPromptsEnd : Prop :=
  let due (s : State) (c : Cause) (n : Nat) (o : OpenOrigin) := s.attention.causes.filter (· != c) = []
    ∧ (s.sale.state = .idle ∨ s.sale.state = .settled) ∧ s.drawer.state = .closed ∧ s.drawer.pendingOpen = true
    ∧ s.drawer.attempt = some n ∧ s.drawer.origin = some o
  let pulsing (s : State) (n : Nat) (o : OpenOrigin) : Drawer := { s.drawer with
    state := .pulsing, attempt := some n, origin := some o, pendingOpen := false, openingDeadline := none
    pulseDeadline := some (s.now + BitVec.ofNat 32 s.lane.config.pulseLength) }
  let released (s t : State) (c : Cause) := ((∀ n o, ¬ due s c n o) → t.drawer = s.drawer)
    ∧ ∀ n o, due s c n o → t.drawer = pulsing s n o
  let cleared (s t : State) (c : Cause) (a : ClearAction) :=
    let rest := s.attention.causes.filter (· != c)
    exec (.clearAttention (some c) (some a)) s = .next t ∧ t.attention.causes = rest
      ∧ Issued ⟨.sale, .clearAttention, .done (.cleared rest rest.isEmpty)⟩ t
  (∀ (cause : Option Cause) (action : Option ClearAction) (s : State), s.routes .sale = true → s.lane.ready = true → Published s →
    let taken := markUnanswered .sale s
    let bag (c : Cause) := c = .unexpectedItem ∨ c = .bagMismatch ∨ c = .bagTimeout
    let allowed (c : Cause) (a : ClearAction) := if bag c then a = .acceptWeight ∨ a = .itemRemoved ∨ a = .baggingOff
      else if c = .ageCheck then a = .approved ∨ a = .refused else a = .acknowledge
    let refuse (r : Reason) := exec (.clearAttention cause action) s = .next (replyRefused .sale .clearAttention r taken)
    (cause = none ∨ action = none → refuse .range) ∧
    (∀ c a, cause = some c → action = some a → c ∉ s.attention.causes → refuse .stale) ∧
    (∀ c a, cause = some c → action = some a → c ∈ s.attention.causes → ¬ allowed c a → refuse .state) ∧
    (∀ c, cause = some c → bag c → action = some .acceptWeight → c ∈ s.attention.causes → s.w1.stableGross = none → refuse .state) ∧
    (cause = some .printerFault → action = some .acknowledge → Cause.printerFault ∈ s.attention.causes →
      (s.mechanism.fault = some .cutterJam ∧ s.mechanism.cutterHome = false
        ∨ s.mechanism.fault = some .thermistorOpen ∧ s.mechanism.openRun ≠ 0) → refuse .state) ∧
    (∀ c a, cause = some c → action = some a → c ∈ s.attention.causes → FewWaiting s →
      (a = .acknowledge ∧ c ≠ .printerFault ∧ c ≠ .drawerJammed ∧ ¬ bag c ∧ c ≠ .ageCheck ∨ a = .approved ∧ c = .ageCheck) →
      let rest := s.attention.causes.filter (· != c)
      ∃ t, exec (.clearAttention cause action) s = .next t ∧ Shows { s with drawer := t.drawer } t ∧ released s t c
        ∧ t.attention.causes = rest
        ∧ t.attention.current = s.attention.current ∧ t.attention.conditions = s.attention.conditions
        ∧ t.attention.primary = (if rest = [] then none
            else if s.attention.causes.head? = some c
              then some ⟨s.now, if s.sale.state = .idle then 0 else s.sale.number, 0, none, true⟩ else s.attention.primary)
        ∧ t.attention.age = (if c = .ageCheck then none else s.attention.age)
        ∧ Notified (.attention ⟨rest, t.attention.primary, t.attention.age, !rest.isEmpty⟩) t
        ∧ Issued ⟨.sale, .clearAttention, .done (.cleared rest rest.isEmpty)⟩ t)) ∧
  (∀ (c : Cause) (s : State), s.routes .sale = true → s.lane.ready = true → Published s → FewWaiting s →
    c ∈ s.attention.causes → (c = .unexpectedItem ∨ c = .bagMismatch ∨ c = .bagTimeout) →
    let b := s.bagging
    let bagged (t : State) := Shows { s with
      bagging := t.bagging, sale := { s.sale with lines := t.sale.lines }, drawer := t.drawer } t ∧ released s t c
    let ends (x : BagCheckState) (base : Option Int) : Bagging := { b with
      state := x, baseline := base, expectation := none, deviationStart := none, delta := none
      promptRaised := false, causeRaised := false }
    let expecting := b.state = .awaitAdd ∨ b.state = .awaitRemove ∨ b.state = .mismatch
    (∀ g, s.w1.stableGross = some g → ∃ t, cleared s t c .acceptWeight ∧ bagged t
      ∧ (∀ e, expecting → b.expectation = some e →
          let moved := g - b.baseline.getD g
          let bag : BagState := match e.direction with | .add => .bagged | .remove => .notRequired
          let learned : Option Int := if e.change = 0 ∧ e.direction = .add then some (max 0 moved) else none
          t.bagging = ends .idle (some g)
            ∧ t.sale.lines = modifyLine s.sale.lines e.line (fun l => { l with
                bag := bag, overridden := true, expected := if learned.isSome then learned else l.expected })
            ∧ Notified (.lineBagged e.line e.direction bag moved true learned) t)
      ∧ (b.state = .unexpected → t.bagging = ends .idle (some g) ∧ t.sale.lines = s.sale.lines)
      ∧ (b.state = .idle ∨ b.state = .off ∨ b.state = .suspended →
          t.bagging = { b with baseline := some g } ∧ t.sale.lines = s.sale.lines)) ∧
    (let limit : Int := match b.expectation with | some e => e.tolerance | none => s.lane.config.unexpected
      let allowed := b.state = .off ∨ b.state = .suspended
        ∨ ∃ g base, s.w1.stableGross = some g ∧ b.baseline = some base ∧ ((g - base).natAbs : Int) ≤ limit
      (¬ allowed → exec (.clearAttention (some c) (some .itemRemoved)) s
        = .next (replyRefused .sale .clearAttention .state (markUnanswered .sale s))) ∧
      (allowed → ∃ t, cleared s t c .itemRemoved ∧ bagged t ∧ t.sale.lines = s.sale.lines
        ∧ (∀ e, expecting → b.expectation = some e → t.bagging = { b with
            state := match e.direction with | .add => .awaitAdd | .remove => .awaitRemove
            expectation := some { e with timerStart := some s.now }
            deviationStart := none, delta := none, promptRaised := false, causeRaised := false }
          ∧ ∀ p ∈ t.attention.conditions, p.kind ≠ .placeItem)
        ∧ (b.state = .unexpected → t.bagging = ends .idle b.baseline)
        ∧ (b.state = .idle ∨ b.state = .off ∨ b.state = .suspended → t.bagging = b))) ∧
    (∃ t, cleared s t c .baggingOff ∧ bagged t
      ∧ (b.state = .suspended → t.bagging = b ∧ t.sale.lines = s.sale.lines)
      ∧ (b.state ≠ .suspended → t.bagging = ends .off (if s.w1.stableGross.isSome then s.w1.stableGross else b.baseline)
          ∧ t.sale.lines = s.sale.lines.map (fun l => if l.bag = .await then { l with bag := .notRequired } else l)
          ∧ ∀ p ∈ t.attention.conditions, p.kind ≠ .placeItem ∧ p.kind ≠ .weightMismatch))) ∧
  (∀ s : State, s.routes .sale = true → s.lane.ready = true → Published s → FewWaiting s →
    let m := s.mechanism
    let clear (c : Cause) := (s.sale.state = .idle ∨ s.sale.state = .settled) ∧ s.attention.causes.filter (· != c) = []
    (Cause.drawerJammed ∈ s.attention.causes → (s.sale.state = .settled → s.sale.receipt = .queued) →
      ∃ t, cleared s t .drawerJammed .acknowledge ∧ Shows { s with drawer := t.drawer } t
        ∧ (s.drawer.state ≠ .jammed → released s t .drawerJammed)
        ∧ (s.drawer.state = .jammed → clear .drawerJammed → t.drawer = { pulsing s 2 .retry with openDeadline := none })
        ∧ (s.drawer.state = .jammed → ¬ clear .drawerJammed → t.drawer = { s.drawer with
            state := .closed, attempt := some 2, origin := some .retry, pendingOpen := true
            pulseDeadline := none, openingDeadline := none, openDeadline := none })) ∧
    (Cause.printerFault ∈ s.attention.causes → (m.fault = some .cutterJam → m.cutterHome = true) →
      (m.fault = some .thermistorOpen → m.openRun = 0) →
      ∃ t, cleared s t .printerFault .acknowledge
        ∧ Shows { s with mechanism := t.mechanism, drawer := t.drawer } t ∧ released s t .printerFault
        ∧ t.mechanism = { m with
            fault := none, inProgress := t.mechanism.inProgress, previous := t.mechanism.previous
            beforePrevious := t.mechanism.beforePrevious }
        ∧ (m.inProgress.isSome = true → t.mechanism.inProgress = m.inProgress)
        ∧ (m.inProgress = none → t.mechanism.state = (if m.stopped then .suspended else if m.hot then .pausedHot
            else if m.repeatCut = true ∨ m.continuation ≠ [] ∨ m.ring ≠ [] then .printing else .ready))
        ∧ (∀ j last rest, m.inProgress = none → m.stopped = false → m.hot = false → m.repeatCut = true →
            m.ring = .cut j last :: rest → t.mechanism.inProgress = some (.cut j last))
        ∧ (∀ d j rest, m.inProgress = none → m.stopped = false → m.hot = false → m.repeatCut = false → m.continuation = [] →
            m.ring = .line d j :: rest → ∃ ps, t.mechanism.inProgress = some (.line d (some j) ps))) ∧
    (∀ r, Cause.ageCheck ∈ s.attention.causes → s.attention.age = some r →
      let ls := s.sale.lines
      let inFlight := s.card.session.state = .checked ∨ s.card.session.state = .awaitResult ∨ s.card.session.state = .cancelAsked
      let current (l : SaleLine) := s.sale.state ≠ .idle ∧ s.sale.number = r.sale ∧ r.line ≠ 0 ∧ ls[r.line - 1]? = some l
        ∧ l.voided = false ∧ l.number = r.line
      ((s.sale.state = .idle ∨ s.sale.number ≠ r.sale ∨ r.line = 0 ∨ ∀ l, ls[r.line - 1]? = some l → l.voided = true) →
        ∃ t, cleared s t .ageCheck .refused ∧ Shows { s with drawer := t.drawer } t ∧ released s t .ageCheck) ∧
      (∀ l, current l → (s.sale.state = .settled ∨ s.sale.cancelPending = true ∨ inFlight) →
        exec (.clearAttention (some .ageCheck) (some .refused)) s
          = .next (replyRefused .sale .clearAttention .state (markUnanswered .sale s))) ∧
      (∀ l, current l → s.sale.state = .opened → s.sale.cancelPending = false → ¬ inFlight → (l.kind = .item ∨ l.kind = .weighed) →
        l.bag = .await ∨ l.bag = .notRequired ∨ l.bag = .skipped → ls.length < 120 → 0 ≤ itemTotal ls - l.amount →
        let v : SaleLine := { number := ls.length + 1, kind := .void, code := l.code, description := l.description
                              amount := -l.amount, target := some l.number }
        ∃ t, cleared s t .ageCheck .refused
          ∧ Shows { s with bagging := t.bagging, sale := { s.sale with lines := t.sale.lines } } t
          ∧ t.sale.lines = ls.set (r.line - 1) { l with
              voided := true, bag := if l.bag = .await then .notRequired else l.bag } ++ [v]
          ∧ (l.bag = .await → t.bagging.state = .idle ∧ t.bagging.expectation = none ∧ t.bagging.baseline = s.bagging.baseline)
          ∧ (l.bag ≠ .await → t.bagging = s.bagging) ∧ Notified (.lineAdded v (totals t.sale.lines)) t))) ∧
  (∀ (p : Prompt) (s : State), s.attention.current = some p → p.kind.isEvent = true → s.attention.eventDeadline.isSome = true →
    ∃ t, exec .eventPromptExpiry s = .next t ∧ Shows s t ∧ t.attention.causes = s.attention.causes
      ∧ t.attention.current = s.attention.conditions.getLast? ∧ t.attention.eventDeadline = none
      ∧ t.attention.conditions = s.attention.conditions ∧ t.attention.primary = s.attention.primary)

/-! ## The cash drawer (chapter 6) -/

/-- DRAWER_NO_SALE, refused with STATE, BUSY, STATE in order, else counted and answered PULSING, DEFERRED or
ALREADY_OPEN; a pending open pulses when the pulse condition holds; the end of a pulse makes the drawer OPEN or
OPENING_WAIT; a release that fails is retried once, held if it may not pulse, and then JAMMED (R120, R121, R124, R125,
R127). -/
def Obligations.ReleasesPulseAndRetry : Prop :=
  ∀ s : State, FewWaiting s →
    let d := s.drawer
    let clear := (s.sale.state = .idle ∨ s.sale.state = .settled) ∧ s.attention.causes = []
    let taken := markUnanswered .sale s
    let pulsing (n : Nat) (o : OpenOrigin) : Drawer := { d with
      state := .pulsing, attempt := some n, origin := some o, pendingOpen := false, openingDeadline := none
      pulseDeadline := some (s.now + BitVec.ofNat 32 s.lane.config.pulseLength) }
    let told (t : State) := Notified (.drawerState ⟨t.drawer.state, t.drawer.switchOpen, t.drawer.pendingOpen, t.drawer.attempt,
      t.drawer.origin, if s.sale.state = .idle then 0 else s.sale.number⟩) t
    (s.routes .sale = true → s.lane.ready = true → Published s →
      (s.sale.state ≠ .idle → exec .drawerNoSale s = .next (replyRefused .sale .drawerNoSale .state taken)) ∧
      (s.sale.state = .idle → (d.state = .pulsing ∨ d.state = .openingWait) →
        exec .drawerNoSale s = .next (replyRefused .sale .drawerNoSale .busy taken)) ∧
      (s.sale.state = .idle → d.state = .jammed →
        exec .drawerNoSale s = .next (replyRefused .sale .drawerNoSale .state taken)) ∧
      (s.sale.state = .idle → (d.state = .closed ∨ d.state = .opened ∨ d.state = .overdue ∨ d.state = .forced) →
        ∃ t, exec .drawerNoSale s = .next t ∧ t = { s with link := t.link, drawer := t.drawer }
          ∧ t.drawer.till = { d.till with noSales := min 65535 (d.till.noSales + 1) }
          ∧ (d.state = .closed → d.pendingOpen = false → s.attention.causes = [] →
              t.drawer = { pulsing 1 .noSale with till := t.drawer.till } ∧ told t
              ∧ Issued ⟨.sale, .drawerNoSale, .done (.noSale .pulsing)⟩ t)
          ∧ (d.state = .closed → d.pendingOpen = true ∨ s.attention.causes ≠ [] →
              t.drawer.state = .closed ∧ t.drawer.pendingOpen = true ∧ t.drawer.attempt = some 1 ∧ t.drawer.origin = some .noSale
              ∧ Issued ⟨.sale, .drawerNoSale, .done (.noSale .deferred)⟩ t)
          ∧ (d.state ≠ .closed → t.drawer = { d with till := t.drawer.till }
              ∧ Issued ⟨.sale, .drawerNoSale, .done (.noSale .alreadyOpen)⟩ t))) ∧
    (∀ n o, d.state = .closed → d.pendingOpen = true → d.attempt = some n → d.origin = some o →
      (clear → Published s → ∃ t, exec .pendingOpenPulse s = .next t ∧ told t
        ∧ t = { s with link := t.link, drawer := pulsing n o }) ∧
      (¬ clear → exec .pendingOpenPulse s = .next s)) ∧
    (d.state = .pulsing → d.switchOpen = false → (s.sale.state = .settled → s.sale.receipt = .queued) → Published s →
      ∃ t, exec .pulseTimerExpiry s = .next t ∧ told t ∧ t = { s with link := t.link, drawer := { d with
        state := .openingWait, pulseDeadline := none, openingDeadline := some (s.now + 1000) } }) ∧
    (d.state = .pulsing → d.switchOpen = true → (s.sale.state = .settled → s.sale.receipt = .queued) → Published s →
      ∃ t, exec .pulseTimerExpiry s = .next t ∧ told t ∧ t = { s with link := t.link, drawer := { d with
        state := .opened, attempt := none, origin := none, pulseDeadline := none, openingDeadline := none
        openDeadline := some (s.now + BitVec.ofNat 32 (1000 * s.lane.config.openLimit))
        till := { d.till with opens := min 65535 (d.till.opens + 1) } } }) ∧
    (∀ o, d.state = .openingWait → d.origin = some o → (s.sale.state = .settled → s.sale.receipt = .queued) →
      (d.attempt = some 1 → clear → Published s → ∃ t, exec .openingTimerExpiry s = .next t ∧ told t
        ∧ t = { s with link := t.link, drawer := pulsing 2 o }) ∧
      (d.attempt = some 1 → ¬ clear → ∃ t, exec .openingTimerExpiry s = .next t ∧ told t
        ∧ Shows { s with drawer := { d with state := .closed, attempt := some 2, origin := some o, pendingOpen := true
                                            pulseDeadline := none, openingDeadline := none, openDeadline := none } } t) ∧
      (d.attempt = some 2 → ∃ t, exec .openingTimerExpiry s = .next t ∧ told t
        ∧ Shows { s with drawer := { d with state := .jammed, attempt := none, origin := none, openingDeadline := none
                                            till := { d.till with jams := min 65535 (d.till.jams + 1) } } } t
        ∧ Cause.drawerJammed ∈ t.attention.causes))

/-- The drawer switch and the open timer: opening without a release is FORCED, after one or in JAMMED it is OPEN with
the open timer started; closing makes the drawer CLOSED and withdraws CLOSE_DRAWER, which the open timer raises in
OVERDUE.  TILL_READ_ZERO needs room for a job: it queues the report of the tallies and zeroes them (R119, R122, R123,
R129). -/
def Obligations.DrawerSwitchAndTill : Prop :=
  ∀ s : State, FewWaiting s → (s.sale.state = .settled → s.sale.receipt = .queued) →
    let d := s.drawer
    let told (t : State) := Notified (.drawerState ⟨t.drawer.state, t.drawer.switchOpen, t.drawer.pendingOpen, t.drawer.attempt,
      t.drawer.origin, if s.sale.state = .idle then 0 else s.sale.number⟩) t
    let moved (v : Bool) (e : Drawer) : State := { s with pins := { s.pins with drawerOpen := v }, drawer := { e with switchOpen := v } }
    let opening : Drawer := { d with
      state := .opened, attempt := none, origin := none, pulseDeadline := none, openingDeadline := none
      openDeadline := some (s.now + BitVec.ofNat 32 (1000 * s.lane.config.openLimit))
      till := { d.till with opens := min 65535 (d.till.opens + 1) } }
    (d.switchOpen = false → d.state = .closed → ∃ t, exec .switchShowsOpen s = .next t ∧ told t
      ∧ Shows (moved true { d with state := .forced, attempt := none, origin := none, pendingOpen := false
                                   till := { d.till with forced := min 65535 (d.till.forced + 1) } }) t
      ∧ Cause.drawerForced ∈ t.attention.causes) ∧
    (d.switchOpen = false → (d.state = .openingWait ∨ d.state = .jammed) → Published s →
      ∃ t, exec .switchShowsOpen s = .next t ∧ told t
        ∧ t = { moved true opening with link := t.link }) ∧
    (d.switchOpen = false → d.state = .pulsing → exec .switchShowsOpen s = .next (moved true d)) ∧
    (d.switchOpen = true → (d.state = .opened ∨ d.state = .overdue ∨ d.state = .forced) →
      ∃ t, exec .switchShowsClosed s = .next t ∧ told t
        ∧ Shows (moved false { d with state := .closed, attempt := none, origin := none, pendingOpen := false
                                      pulseDeadline := none, openingDeadline := none, openDeadline := none }) t
        ∧ t.attention.causes = s.attention.causes ∧ ∀ p ∈ t.attention.conditions, p.kind ≠ .closeDrawer) ∧
    (d.state = .opened → d.openDeadline.isSome = true → ∃ t, exec .openTimerExpiry s = .next t ∧ told t
      ∧ Shows { s with drawer := { d with state := .overdue, openDeadline := none } } t
      ∧ t.attention.causes = s.attention.causes ∧ t.attention.current = some ⟨.closeDrawer, none⟩
      ∧ (⟨.closeDrawer, none⟩ : Prompt) ∈ t.attention.conditions) ∧
    (s.routes .management = true →
      (8 ≤ s.composer.jobs.length → exec .tillReadZero s
        = .next (replyRefused .management .tillReadZero .full (markUnanswered .management s))) ∧
      (s.composer.jobs.length < 8 → ∃ t, exec .tillReadZero s = .next t
        ∧ t = { s with
            link := t.link
            drawer := { d with till := ⟨0, 0, 0, 0, 0, 0⟩ }
            composer := { s.composer with
              nextJob := if s.composer.nextJob = 65535 then 1 else s.composer.nextJob + 1
              jobs := s.composer.jobs ++ [⟨s.composer.nextJob, .tillReport, .queued, none, none, .tallies d.till, false, 0⟩] } }
        ∧ Notified (.jobState ⟨s.composer.nextJob, .tillReport, .queued, none, false, false⟩) t
        ∧ Issued ⟨.management, .tillReadZero, .done (.till d.till (some s.composer.nextJob))⟩ t))

/-! ## Card acceptance (chapter 5) -/

/-- What the reader reports apart from cards: CARD_PRESENT and CARD_REMOVED move the card in reader mark, and removal
ends DONE and a pre-read by insertion; READ_ERROR is counted in a running sale with no payment in flight, and with prompts
disabled its TRY_CARD_AGAIN is promoted to CARD_FAILURES; KEY OK and the 3,000 ms end a reader event prompt; an unknown message changes nothing.  Each message queues CARD_STATE, that of a removed
card with the masked account the session held (R95, R96, R97, R98, R102, R104, R115, R167).  That the 3,000 ms run from
the message joining the transmit queue is the model's reading of its sending (log entry 29), and that the promoted PROMPT
carries the promoted prompt, and the reader shows its own prompt all the same, are its choices (log entry 20). -/
def Obligations.ReaderMessagesReachTheSession : Prop :=
  ∀ s : State, FewWaiting s →
    let x := s.card.session
    let no := if s.sale.state = .idle then 0 else s.sale.number
    let told (e : CardEvent) (t : State) := ∃ n : CardStateNotice, Notified (.cardState n) t ∧ n.event = e ∧ n.sale = no
      ∧ n.state = t.card.session.state ∧ n.failures = t.card.failures
      ∧ (e = .removed → n.face = x.face ∧ n.masked = x.face.map CardFace.masked)
    let sent := s.bus.channels[(1 : ChannelId)].present = true ∧ (∃ i : Fin 16, s.bus.slots[i] = .assigned 1 .data)
      ∧ s.card.waiting = [] ∧ s.bus.channels[(1 : ChannelId)].transmit.length < 4
    let inFlight := x.state = .checked ∨ x.state = .awaitResult ∨ x.state = .cancelAsked
    let taking := ¬ inFlight ∧ s.lane.ready = true ∧ (s.sale.state = .opened ∨ s.sale.state = .paying)
    (Published s → ∃ t, exec .cardPresent s = .next t ∧ told .present t
      ∧ t = { s with link := t.link, card := { s.card with session := { x with cardInReader := true } } }) ∧
    (Published s → ∃ t, exec .unknownReaderMessage s = .next t ∧ told .unknownMessage t ∧ t = { s with link := t.link }) ∧
    (x.state ≠ .done → (x.state = .preRead → ∀ f ∈ x.face, f.mode ≠ .insert) → Published s →
      ∃ t, exec .cardRemoved s = .next t ∧ told .removed t
        ∧ t = { s with link := t.link, card := { s.card with session := { x with cardInReader := false } } }) ∧
    (x.state = .done ∨ (x.state = .preRead ∧ ∃ f, x.face = some f ∧ f.mode = .insert) →
      ∃ t, exec .cardRemoved s = .next t ∧ told .removed t
        ∧ Shows { s with card := { s.card with session := ⟨.noCard, none, false, none, none, none, none⟩ } } t
        ∧ t.attention.causes = s.attention.causes
        ∧ (x.state = .done → ∀ p ∈ t.attention.conditions, p.kind ≠ .removeCard)) ∧
    (inFlight → Published s → ∃ t, exec .readError s = .next t ∧ told .busy t ∧ t = { s with link := t.link }) ∧
    (¬ inFlight → ¬ taking → Published s → ∃ t, exec .readError s = .next t ∧ told .ignored t ∧ t = { s with link := t.link }) ∧
    (taking → s.lane.config.promptsEnabled = true → ∃ t, exec .readError s = .next t ∧ told .readError t
      ∧ Shows { s with card := { s.card with failures := t.card.failures } } t
      ∧ t.attention.current = some ⟨.tryCardAgain, none⟩
      ∧ (sent → t.card.prompt = some ⟨.tryCardAgain, some (s.now + 3000)⟩) ∧ (¬ sent → t.card.prompt = some ⟨.tryCardAgain, none⟩)
      ∧ (s.card.failures + 1 < s.lane.config.cardFailureLimit →
          t.card.failures = s.card.failures + 1 ∧ t.attention.causes = s.attention.causes)
      ∧ (s.lane.config.cardFailureLimit ≤ s.card.failures + 1 →
          t.card.failures = 0 ∧ Cause.cardFailures ∈ t.attention.causes)) ∧
    (taking → s.lane.config.promptsEnabled = false → ∃ t, exec .readError s = .next t ∧ told .readError t
      ∧ Shows { s with card := { s.card with failures := t.card.failures } } t
      ∧ t.card.failures = (if s.lane.config.cardFailureLimit ≤ s.card.failures + 1 then 0 else s.card.failures + 1)
      ∧ t.attention.current = s.attention.current ∧ t.attention.conditions = s.attention.conditions
      ∧ t.attention.causes = (if Cause.cardFailures ∈ s.attention.causes then s.attention.causes
          else s.attention.causes ++ [.cardFailures])
      ∧ (s.attention.causes = [] → t.attention.primary = some ⟨s.now, no, 0, some (s.card.failures + 1 : Nat), false⟩)
      ∧ Notified (.prompt ⟨some ⟨.tryCardAgain, none⟩, true, .promoted, no, s.attention.conditions⟩) t
      ∧ t.card.prompt = some ⟨.tryCardAgain, if sent then some (s.now + 3000) else none⟩) ∧
    (∃ t, exec .keyOk s = .next t ∧ told .keyOk t ∧ t.card.session = x ∧ t.attention.causes = s.attention.causes
      ∧ (∀ p, s.card.prompt = some p → p.kind ≠ .removeCard → t.card.prompt = none) ∧ t.sale = s.sale) ∧
    (∀ p, s.card.prompt = some p → p.deadline.isSome = true → ∃ t, exec .readerPromptExpiry s = .next t
      ∧ t = { s with bus := { s.bus with channels := t.bus.channels }
                     card := { s.card with prompt := none, waiting := t.card.waiting } })

/-- CARD_DATA in a running sale with no payment in flight: a wrong length or check digit is a counted read failure, whose
TRY_CARD_AGAIN is promoted to CARD_FAILURES with prompts disabled, an expired card or one no issuer entry takes is declined,
and a card that passes is held as a pre-read in OPEN, with its full data, and starts its payment in PAYING, from DONE too,
unless the sale's tenders, lines or attempts decline it locally.  While a payment is in flight it is reported BUSY, outside a
running sale IGNORED, and not taken; a malformed one is a READ_ERROR (R95, R98, R99, R100, R102, R103, R104, R105, R167).  The 3,000 ms of a prompt run from its message joining the transmit
queue, the model's reading of its sending, and a card by INSERT that fails a check leaves the card in reader mark as it was,
its choice (log entry 29). -/
def Obligations.CardDataIsChecked : Prop :=
  (∀ (d : CardData) (s : State), cardWellFormed d = false → exec (.cardData d) s = exec .readError s) ∧
  ∀ (d : CardData) (mode : EntryMode) (s : State), FewWaiting s → cardWellFormed d = true → d.mode = some mode →
    let x := s.card.session
    let taking := ¬ (x.state = .checked ∨ x.state = .awaitResult ∨ x.state = .cancelAsked) ∧ s.lane.ready = true
      ∧ (s.sale.state = .opened ∨ s.sale.state = .paying)
    let lengthOk := 12 ≤ d.account.length ∧ d.account.length ≤ 19
    let fresh := ∀ y ∈ s.lane.date, y ≤ digitsValue d.expiry
    let fits (i : Fin 64) := s.card.issuers[i].valid = true ∧ s.card.issuers[i].low ≤ digitsValue (d.account.take 6)
      ∧ digitsValue (d.account.take 6) ≤ s.card.issuers[i].high ∧ s.card.issuers[i].minLength ≤ d.account.length
      ∧ d.account.length ≤ s.card.issuers[i].maxLength
    let routed (r : RouteClass) := ∃ i, fits i ∧ (∀ j, j < i → ¬ fits j) ∧ s.card.issuers[i].route = r
    let sent := s.bus.channels[(1 : ChannelId)].present = true ∧ (∃ i : Fin 16, s.bus.slots[i] = .assigned 1 .data)
      ∧ s.card.waiting = [] ∧ s.bus.channels[(1 : ChannelId)].transmit.length < 4
    let masked : Text := d.account.take 6 ++ List.replicate (d.account.length - 10) 0x2A#8 ++ d.account.drop (d.account.length - 4)
    let told (e : CardEvent) (r : Option CardReason) (m : Option Text) (t : State) :=
      ∃ n : CardStateNotice, Notified (.cardState n) t ∧ n.event = e ∧ n.reason = r ∧ n.masked = m
    let prompts := s.lane.config.promptsEnabled = true
    let atLimit := s.lane.config.cardFailureLimit ≤ s.card.failures + 1
    let counted (t : State) := Shows { s with card := { s.card with failures := t.card.failures } } t
      ∧ t.card.failures = (if atLimit then 0 else s.card.failures + 1)
      ∧ (prompts → t.attention.current = some ⟨.tryCardAgain, none⟩)
      ∧ (¬ prompts → t.attention.current = s.attention.current)
      ∧ t.attention.causes = (if (atLimit ∨ ¬ prompts) ∧ Cause.cardFailures ∉ s.attention.causes
          then s.attention.causes ++ [.cardFailures] else s.attention.causes)
    (¬ taking → Published s → ∃ t, exec (.cardData d) s = .next t ∧ t = { s with link := t.link }
      ∧ (x.state = .checked ∨ x.state = .awaitResult ∨ x.state = .cancelAsked →
          told .busy none (x.face.map CardFace.masked) t)
      ∧ (¬ (x.state = .checked ∨ x.state = .awaitResult ∨ x.state = .cancelAsked) →
          told .ignored none (x.face.map CardFace.masked) t)) ∧
    (taking → ¬ lengthOk → ∃ t, exec (.cardData d) s = .next t ∧ told .checkFailed (some .length) none t ∧ counted t) ∧
    (taking → lengthOk → accountCheckOk d.account = false → ∃ t, exec (.cardData d) s = .next t
      ∧ told .checkFailed (some .checkDigit) (some masked) t ∧ counted t) ∧
    (taking → lengthOk → accountCheckOk d.account = true → (¬ fresh ∨ (∀ i, ¬ fits i) ∨ routed .refuse) →
      ∃ t, exec (.cardData d) s = .next t
        ∧ told .declined (some (if digitsValue d.expiry < s.lane.date.getD 0 then .expired else .issuer)) (some masked) t
        ∧ Shows s t ∧ t.attention.causes = s.attention.causes ∧ t.attention.current = some ⟨.cardDeclined, none⟩
        ∧ (s.attention.current ≠ some ⟨.cardDeclined, none⟩ →
            ∃ n : PromptNotice, Notified (.prompt n) t ∧ n.current = some ⟨.cardDeclined, none⟩
              ∧ n.mark = (if s.lane.config.promptsEnabled then .shown else .reportedOnly))
        ∧ (sent → t.card.prompt = some ⟨.cardDeclined, some (s.now + 3000)⟩)
        ∧ (¬ sent → t.card.prompt = some ⟨.cardDeclined, none⟩)) ∧
    (∀ r, taking → lengthOk → accountCheckOk d.account = true → fresh → routed r → r ≠ .refuse →
      let face : CardFace := ⟨mode, masked, r⟩
      let full : FullData := ⟨d.account, digitsValue d.expiry, d.service, d.issuerData⟩
      let inReader := x.cardInReader || mode == .insert
      (s.sale.state = .opened → ∃ t, exec (.cardData d) s = .next t ∧ told .preRead none (some masked) t
        ∧ Shows { s with card := { s.card with session := ⟨.preRead, some face, inReader, some full, none, none, none⟩ } } t
        ∧ t.attention.causes = s.attention.causes) ∧
      (∀ reason, s.sale.state = .paying → x.state = .noCard ∨ x.state = .done →
        (4 ≤ (s.sale.lines.filter fun l => l.kind == .cardTender).length ∧ reason = .tenderLimit ∨
          (s.sale.lines.filter fun l => l.kind == .cardTender).length < 4 ∧
            (120 ≤ s.sale.lines.length ∧ reason = .saleFull ∨
              s.sale.lines.length < 120 ∧ 255 ≤ s.card.attempts ∧ reason = .attempts)) →
        ∃ t, exec (.cardData d) s = .next t ∧ told .declined (some reason) (some masked) t
          ∧ Shows { s with card := { s.card with session := if mode = .insert then ⟨.done, some face, true, none, none, none, none⟩
              else ⟨.noCard, none, x.cardInReader, none, none, none, none⟩ } } t
          ∧ t.attention.causes = s.attention.causes
          ∧ (mode ≠ .insert → t.attention.current = some ⟨.cardDeclined, none⟩)) ∧
      (s.sale.state = .paying → (x.state = .noCard ∧ s.link.queue.length < 16 ∨ x.state = .done ∧ s.link.queue.length ≤ 14) →
        (s.sale.lines.filter fun l => l.kind == .cardTender).length < 4 →
        s.sale.lines.length < 120 → s.card.attempts < 255 → s.link.waiters = [] →
        let p : Payment := ⟨(totals s.sale.lines).balance.toNat, (s.sale.lines.filter fun l => l.kind == .cardTender).length + 1,
          s.card.attempts + 1⟩
        ∃ t, exec (.cardData d) s = .next t ∧ t.attention.causes = s.attention.causes
          ∧ Notified (.paymentRequest ⟨s.sale.number, p.attempt, p.tenderIndex, p.requested, r, mode, full⟩) t
          ∧ Shows { s with card := { s.card with attempts := s.card.attempts + 1, session := ⟨.awaitResult, some face, inReader,
              some full, some p, none, some (s.now + BitVec.ofNat 32 s.lane.config.paymentLimit)⟩ } } t))

/-- The ends of a payment: a request that waited takes its place and the result is awaited; a matching approval adds a
tender line of at most the requested amount and the balance, ends a pending cancel, and settles the sale where it pays the
balance; a decline, an error, an approval of 0, a confirmed cancel, an expired deadline and a withdrawal of a request that
waits add none, and discard the sale where its cancel is pending; none keeps the full data; KEY CANCEL and CANCEL_SALE ask
for the cancel; an approval that matches no payment is answered with REVERSAL (R18, R19, R20, R23, R106, R107, R108, R109, R110,
R111, R112, R113, R114, R116).  The model's choices (log entry 29): where the payment's end discards the sale a card in the
reader by another mode than INSERT leaves NO_CARD, and REVERSAL carries no account.  That SALE_STATE(CANCELLED) carries the number
of the sale that ended and totals of 0 is its reading (log entry 30). -/
def Obligations.PaymentsEnd : Prop :=
  ∀ (f : CardFace) (p : Payment) (s : State), FewWaiting s →
    s.card.session.face = some f → s.card.session.payment = some p →
    let x := s.card.session
    let flying := x.state = .awaitResult ∨ x.state = .cancelAsked
    let inserted := x.cardInReader = true ∧ f.mode = .insert
    let ended (r : CardReason) (t : State) := (∃ n : CardStateNotice, Notified (.cardState n) t ∧ n.event = .ended
        ∧ n.reason = some r ∧ n.payment = some p ∧ n.masked = some f.masked)
      ∧ t.card.session.full = none ∧ t.card.session.deadline = none ∧ t.card.session.cancelOrigin = none
      ∧ (inserted → t.card.session.state = .done) ∧ (¬ inserted → t.card.session.state = .noCard)
    let discarded (t : State) := t.sale.state = .idle ∧ t.sale.lines = []
      ∧ Notified (.saleState .idle s.sale.number .cancelled ⟨0, 0, 0⟩ s.sale.change) t
    (∀ d, x.state = .checked → x.full = some d → s.link.waiters = [.paymentRequest] → s.link.queue.length < 16 → Published s →
      ∃ t, exec .paymentRequest s = .next t
        ∧ t = { s with link := t.link, card := { s.card with session := { x with
            state := .awaitResult, deadline := some (s.now + BitVec.ofNat 32 s.lane.config.paymentLimit) } } }
        ∧ Notified (.paymentRequest ⟨s.sale.number, p.attempt, p.tenderIndex, p.requested, f.route, f.mode, d⟩) t) ∧
    (x.state = .awaitResult → Published s → ∃ t, exec .keyCancel s = .next t
      ∧ t = { s with link := t.link, card := { s.card with session := { x with
          state := .cancelAsked, cancelOrigin := some .key, full := none } } }
      ∧ Notified (.paymentCancel s.sale.number p.attempt) t) ∧
    (x.state = .checked → s.sale.cancelPending = false → ∃ t, exec .keyCancel s = .next t ∧ ended .withdrawn t
      ∧ t.sale = s.sale ∧ Waiter.paymentRequest ∉ t.link.waiters ∧ t.attention.causes = s.attention.causes) ∧
    (s.routes .sale = true → s.lane.ready = true → Published s → s.sale.state = .paying → s.sale.cancelPending = false →
      (∀ l ∈ s.sale.lines, l.kind ≠ .cardTender ∧ l.kind ≠ .cashTender) →
      (x.state = .checked → ∃ t, exec .cancelSale s = .next t ∧ ended .withdrawn t ∧ discarded t
        ∧ Waiter.paymentRequest ∉ t.link.waiters ∧ Issued ⟨.sale, .cancelSale, .done (.cancelled true)⟩ t) ∧
      (x.state = .cancelAsked → ∃ t, exec .cancelSale s = .next t
        ∧ t = { s with link := t.link, sale := { s.sale with cancelPending := true }
                       card := { s.card with session := { x with cancelOrigin := some .sale } } }
        ∧ Issued ⟨.sale, .cancelSale, .done (.cancelled true)⟩ t)) ∧
    (s.routes .payment = true →
      (∀ n a o amount code, 99999999 < amount ∨ o = none ∨ (code = none ∧ (o = some .approved ∨ o = some .partialApproval)) →
        Published s → exec (.paymentResult n a o amount code) s
          = .next (replyRefused .payment .paymentResult .range (markUnanswered .payment s))) ∧
      (∀ o code (amount : Nat), flying → s.sale.state = .paying → (o = .approved ∨ o = .partialApproval) →
        approvalOk code = true → 1 ≤ amount → amount ≤ 99999999 → 1 ≤ p.requested → 0 < (totals s.sale.lines).balance →
        let applicable := min amount p.requested
        let balance := (totals s.sale.lines).balance
        let l : SaleLine :=
          { number := s.sale.lines.length + 1, kind := .cardTender, description := routeText f.route
            amount := min (applicable : Int) balance
            card := some ⟨f.masked, f.route, f.mode, code, o == .partialApproval || decide (amount < p.requested)⟩ }
        let ls := s.sale.lines ++ [l]
        let paid (t : State) := exec (.paymentResult s.sale.number p.attempt (some o) amount (some code)) s = .next t
          ∧ Notified (.lineAdded l (totals ls)) t
          ∧ ended (if o = .partialApproval then .partialApproval else .approved) t
          ∧ (s.sale.cancelPending = true → Notified (.saleState .paying s.sale.number .cancelLapsed (totals ls) s.sale.change) t)
          ∧ Issued ⟨.payment, .paymentResult, .done (.result true (some l.number))⟩ t
        ((applicable : Int) < balance → ∃ t, paid t
          ∧ t.sale = { s.sale with lines := ls, cancelPending := false } ∧ t.attention.causes = s.attention.causes) ∧
        (balance ≤ applicable → s.composer.jobs.length < 8 → s.sale.receiptSuppressed = false → ∃ t, paid t
          ∧ t.sale.state = .settled ∧ t.sale.change = 0 ∧ t.sale.number = s.sale.number ∧ t.sale.receipt = .queued
          ∧ t.sale.cancelPending = false ∧ t.bagging.state = .suspended
          ∧ t.sale.lines = ls.map (fun y : SaleLine => if y.bag = .await then { y with bag := .notRequired } else y)
          ∧ t.drawer.till.cashTaken = min 4294967295 (s.drawer.till.cashTaken
              + (ls.map fun y : SaleLine => if y.kind = .cashTender then y.amount else 0).sum.toNat)
          ∧ ((∀ y ∈ ls, y.kind ≠ .cashTender) → s.drawer.pendingOpen = false → t.drawer.state = s.drawer.state)
          ∧ Notified (.saleState .settled s.sale.number .settled (totals ls) 0) t)) ∧
      (∀ o amount code r, flying → s.sale.state = .paying → amount ≤ 99999999 →
        (o = .declined ∧ r = .declined ∨ o = .error ∧ r = .error
          ∨ (o = .approved ∨ o = .partialApproval) ∧ amount = 0 ∧ (∃ y, code = some y ∧ approvalOk y = true) ∧ r = .declined) →
        ∃ t, exec (.paymentResult s.sale.number p.attempt (some o) amount code) s = .next t
          ∧ (s.sale.cancelPending = false → t.sale = s.sale) ∧ (s.sale.cancelPending = true → discarded t)
          ∧ ended r t ∧ t.attention.causes = s.attention.causes
          ∧ Issued ⟨.payment, .paymentResult, .done (.result true none)⟩ t) ∧
      (∀ n a o amount code, ¬ (flying ∧ n = s.sale.number ∧ a = p.attempt) → (o = .approved ∨ o = .partialApproval) →
        approvalOk code = true → 1 ≤ amount → amount ≤ 99999999 → Published s →
        ∃ t, exec (.paymentResult n a (some o) amount (some code)) s = .next t ∧ t = { s with link := t.link }
          ∧ Notified (.reversal n a code amount) t ∧ Issued ⟨.payment, .paymentResult, .done (.result false none)⟩ t) ∧
      (flying → s.sale.state = .paying →
        ∃ t, exec (.cancelConfirmed s.sale.number p.attempt) s = .next t ∧ ended .cancelled t
          ∧ (s.sale.cancelPending = false → t.sale = s.sale) ∧ (s.sale.cancelPending = true → discarded t)
          ∧ Issued ⟨.payment, .cancelConfirmed, .done (.confirmed true)⟩ t) ∧
      (∀ n a, ¬ (flying ∧ n = s.sale.number ∧ a = p.attempt) → Published s → exec (.cancelConfirmed n a) s
        = .next (replyDone .payment .cancelConfirmed (.confirmed false) (markUnanswered .payment s)))) ∧
    (flying → s.sale.state = .paying → ∃ t, exec .paymentDeadlineExpiry s = .next t ∧ ended .expired t
      ∧ (s.sale.cancelPending = false → t.sale = s.sale ∧ t.card.prompt ≠ none)
      ∧ (s.sale.cancelPending = true → discarded t))

/-! ## Receipt composition (chapter 7) -/

/-- REPRINT, TEXT_JOB and SEGMENT_JOB: refused by their tests in order, FULL while 8 jobs are queued; else a job joins
the tail with the next job number, 1 after 65,535, reported by JOB_STATE, and the reply carries its number (R132, R133,
R134, R135). -/
def Obligations.JobRequestsQueueJobs : Prop :=
  ∀ (lines : List Text) (k : Nat) (s : State), s.routes .print = true → FewWaiting s →
    let taken := markUnanswered .print s
    let full := 8 ≤ s.composer.jobs.length
    let textOk := lines ≠ [] ∧ lines.length ≤ 40 ∧ ∀ l ∈ lines, l.length ≤ 64
    let queued (c : Instr) (r : Req) (kind : JobKind) (content : JobContent) := ∃ t, exec c s = .next t
      ∧ t = { s with link := t.link, composer := { s.composer with
          nextJob := if s.composer.nextJob = 65535 then 1 else s.composer.nextJob + 1
          jobs := s.composer.jobs ++ [⟨s.composer.nextJob, kind, .queued, none, none, content, false, 0⟩] } }
      ∧ Notified (.jobState ⟨s.composer.nextJob, kind, .queued, none, false, false⟩) t
      ∧ Issued ⟨.print, r, .done (.job s.composer.nextJob)⟩ t
    let refused (c : Instr) (r : Req) (x : Reason) := exec c s = .next (replyRefused .print r x taken)
    (s.lastSale = none → refused .reprint .reprint .notFound) ∧
    (s.lastSale ≠ none → full → refused .reprint .reprint .full) ∧
    (s.lastSale ≠ none → ¬ full → queued .reprint .reprint .reprint .none) ∧
    (¬ textOk → refused (.textJob lines) .textJob .range) ∧
    (textOk → full → refused (.textJob lines) .textJob .full) ∧
    (textOk → ¬ full → queued (.textJob lines) .textJob .text (.text lines)) ∧
    (15 < k → refused (.segmentJob k) .segmentJob .range) ∧
    (k ≤ 15 → full → refused (.segmentJob k) .segmentJob .full) ∧
    (k ≤ 15 → ¬ full → queued (.segmentJob k) .segmentJob .segment (.segment k))

/-- The writes of the composer's tables: BUSY while it is COMPOSING, RANGE, FULL or NOT_FOUND by their tests, else the
one table entry is replaced by the clamped values and nothing else (R139, R142, R143, R144, R148). -/
def Obligations.ComposerTablesAreWritten : Prop :=
  ∀ s : State, s.routes .print = true →
    let taken := markUnanswered .print s
    let c := s.composer
    let done (i : Instr) (r : Req) (d : ReplyData) (c' : Composer) := exec i s = .next (replyDone .print r d { taken with composer := c' })
    let refused (i : Instr) (r : Req) (x : Reason) := exec i s = .next (replyRefused .print r x taken)
    let dots (ls : List DotLine) := ls.map fun l => l % 2 ^ 576
    (c.composing = true → (∀ f b rows, refused (.glyphWrite f b rows) .glyphWrite .busy) ∧ (∀ k w, refused (.formatWrite k w) .formatWrite .busy)
      ∧ (∀ n, refused (.cutFeedWrite n) .cutFeedWrite .busy) ∧ (∀ k n ls, refused (.templateWrite k n ls) .templateWrite .busy)
      ∧ (∀ k n ls, refused (.templateLines k n ls) .templateLines .busy) ∧ refused .templateClear .templateClear .busy
      ∧ ∀ k ms, refused (.scriptWrite k ms) .scriptWrite .busy) ∧
    (c.composing = false →
      (∀ (i : Fin 128) (rows : List Nat), rows.length = 24 → (∀ r ∈ rows, r < 2 ^ 12) →
        done (.glyphWrite (some .a) (0x20#8 + BitVec.ofNat 8 i) rows) .glyphWrite .none { c with glyphsA := c.glyphsA.set i (some rows) }) ∧
      (∀ (i : Fin 128) (rows : List Nat), rows.length = 17 → (∀ r ∈ rows, r < 2 ^ 9) →
        done (.glyphWrite (some .b) (0x20#8 + BitVec.ofNat 8 i) rows) .glyphWrite .none { c with glyphsB := c.glyphsB.set i (some rows) }) ∧
      (∀ f b rows, b < 0x20#8 ∨ 0x9F#8 < b → refused (.glyphWrite f b rows) .glyphWrite .range) ∧
      (∀ (k : RowKind) (f : Font) (w : FormatWrite), w.font = some f → (w.widthScale = 1 ∨ w.widthScale = 2) →
        (w.heightScale = 1 ∨ w.heightScale = 2) →
        (∀ n ∈ w.script, n ≤ 3 ∧ (k = .header ∨ k = .footer ∨ k = .slipHeader)) →
        let columns := (match f with | .a => 48 | .b => 64) / w.widthScale
        let left := max 1 (min columns w.leftStart)
        let e : FormatEntry := ⟨w.printed, f, w.widthScale, w.heightScale, left, max left (min columns w.rightEnd),
          min 24 w.spacing, w.label.take 32, w.script⟩
        done (.formatWrite (some k) w) .formatWrite (.format e) { c with formats := c.formats.set (kindIndex k) e }) ∧
      (∀ w, refused (.formatWrite none w) .formatWrite .range) ∧
      (∀ n, done (.cutFeedWrite n) .cutFeedWrite (.feedToCut (min 240 n)) { c with feedToCut := min 240 n }) ∧
      (∀ (k : Fin 16) n ls, 1 ≤ n → n ≤ 640 → ls.length ≤ n → ls.length ≤ 14 →
        let stored := dots ls ++ List.replicate (n - ls.length) 0
        let write (start mark : Nat) := done (.templateWrite k n ls) .templateWrite (.segment start n (640 - mark))
          { c with segments := c.segments.set k (some ⟨start, stored⟩), freeMark := mark }
        (∀ g, c.segments[k] = some g → g.lines.length = n → write g.start c.freeMark) ∧
        ((∀ g, c.segments[k] = some g → g.lines.length ≠ n) → n ≤ 640 - c.freeMark → write c.freeMark (c.freeMark + n)) ∧
        ((∀ g, c.segments[k] = some g → g.lines.length ≠ n) → 640 - c.freeMark < n →
          refused (.templateWrite k n ls) .templateWrite .full)) ∧
      (∀ k n ls, 15 < k ∨ n = 0 ∨ 640 < n ∨ n < ls.length → refused (.templateWrite k n ls) .templateWrite .range) ∧
      (∀ (k : Fin 16) first ls, ls ≠ [] → ls.length ≤ 14 →
        (c.segments[k] = none → refused (.templateLines k first ls) .templateLines .notFound) ∧
        (∀ g, c.segments[k] = some g → g.lines.length < first + ls.length → refused (.templateLines k first ls) .templateLines .range) ∧
        (∀ g, c.segments[k] = some g → first + ls.length ≤ g.lines.length → done (.templateLines k first ls) .templateLines .none
          { c with segments := c.segments.set k (some ⟨g.start, g.lines.take first ++ dots ls ++ g.lines.drop (first + ls.length)⟩) })) ∧
      done .templateClear .templateClear (.freeLines 640) { c with segments := Vector.replicate 16 none, freeMark := 0 } ∧
      (∀ (k : Fin 4) (ms : List MoveWrite), ms.length ≤ 8 →
        (∀ m ∈ ms, m.order.isSome = true ∧ m.segment ≤ 15 ∧ (m.scale = 1 ∨ m.scale = 2)) →
        let stored := ms.map fun m => (⟨m.segment, min 639 m.firstLine, max 1 (min 640 m.lineCount), max 1 (min 8 m.repeats),
          m.order.getD .forward, m.scale⟩ : BlockMove)
        done (.scriptWrite k ms) .scriptWrite (.script stored) { c with scripts := c.scripts.set k stored }) ∧
      (∀ k ms, 3 < k ∨ 8 < ms.length ∨ (∃ m ∈ ms, m.order = none ∨ 15 < m.segment ∨ (m.scale ≠ 1 ∧ m.scale ≠ 2)) →
        refused (.scriptWrite k ms) .scriptWrite .range))

/-! ## The print mechanism (chapter 8) -/

/-- The strobes of a dot line: each black dot in exactly one sub-pass, that of the history class its two dots before it
give, no white dot in any; the sub-passes follow the classes 0 to 3, hold at most the dot limit, and strobe for
floor(B × Fh / 16) µs, B being the base time of the band (R154). -/
def Obligations.DotsAreStrobedByHistory : Prop :=
  ∀ (m : Mechanism) (dots : DotLine) (b : Fin 8), m.band = some b.val → 1 ≤ m.heat.dotLimit →
    let history (x : Nat) : Nat := (if m.previous.testBit x then 2 else 0) + (if m.beforePrevious.testBit x then 1 else 0)
    let passes := linePasses m dots
    (∀ x, x < 576 → dots.testBit x = true → (passes.flatMap SubPass.dots).count x = 1) ∧
    (∀ p ∈ passes, ∃ h : Fin 4, p.cls = h.val ∧ p.micros = m.heat.baseTimes[b] * m.heat.factors[h] / 16
      ∧ p.dots.length ≤ m.heat.dotLimit ∧ p.dots ≠ []
      ∧ ∀ x ∈ p.dots, x < 576 ∧ dots.testBit x = true ∧ history x = h.val) ∧
    (passes.map SubPass.cls).Pairwise (· ≤ ·)

/-- Composing and printing: the oldest QUEUED job starts composing and its elements go into the ring while they find
room, a row as a whole; the last cut mark makes the job PRINTING, and composes the sale's receipt; a TEXT job is one row per
line, a SEGMENT job its segment, a REPRINT the rows of the last sale, each then the feed to the cut and a cut mark, and a row
draws its text's glyphs in its columns; the end of a line takes it from the ring into the history; the end of a job's last
cut makes the job DONE; a cut that does not end is a CUTTER_JAM with PRINTER_FAULT, its mark kept for a repeat (R134, R137,
R138, R140, R142, R146, R151, R156, R157); the composed receipt of a SETTLED sale closes it, which becomes the last sale
(R20, R21).  The model's choice (log entry 28): all elements that find room are written in
the one event.  A label has its space behind it also where the row has no left text of its own, as R140 says.  That SALE_STATE(CLOSED)
carries the number of the sale that ended and totals of 0 is the model's reading (log entry 30), and so is that CUT_END ends
the cut whatever level of cutter home was noted (log entry 27). -/
def Obligations.CompositionPrintsAndCuts : Prop :=
  let lines : Element → List DotLine := fun e => match e with | .row ls => ls | .line d => [d] | _ => []
  let ended (c : Composer) (es : List Element) : List Element := es ++ List.replicate c.feedToCut (.line 0) ++ [.cut true]
  let row (c : Composer) (k : RowKind) (left right : Text) : List Element :=
    let e := c.formats[kindIndex k]
    if e.printed then [.row (drawRow c e (if e.label = [] then left else e.label ++ 0x20#8 :: left) right)] else []
  (∀ (j : Job) (body : List Element) (before after : List Job) (s : State), FewWaiting s → Published s →
    s.composer.composing = false → s.composer.todo = [] → s.composer.jobs = before ++ j :: after → j.state = .queued → j.cuts = 0 →
    (∀ k ∈ before ++ after, k.state ≠ .queued ∧ k.state ≠ .composing ∧ k.number ≠ j.number) → s.mechanism.inProgress.isSome = true →
    let no := if j.kind = .reprint then s.lastSale.map SaleRecord.number else j.saleNumber
    jobElements s.composer ⟨s.lane.config.decimals, s.lane.config.separator⟩ s.sale s.lastSale
      { j with state := .composing, saleNumber := no } = body ++ [.cut true] → (∀ e ∈ body, e ≠ .cut true) →
    s.mechanism.ringLines + (body.flatMap lines).length ≤ 384 →
    let written : List RingElement := body.flatMap fun e => match e with
      | .cut _ => [.cut j.number false]
      | e => (lines e).map fun d => .line d j.number
    let printing : Job := { j with
      state := .printing, saleNumber := no, cuts := body.count (.cut false) + 1
      templateMissing := j.templateMissing || body.contains .missing }
    let own := j.kind = .saleReceipt ∧ s.sale.state = .settled ∧ j.saleNumber = some s.sale.number
    let releasing := s.drawer.state = .pulsing ∨ s.drawer.state = .openingWait
    let composed : SaleRecord := { s.sale with receipt := .composed, claim := none }
    ∃ t, exec .compositionStart s = .next t
      ∧ t.mechanism = { s.mechanism with ring := s.mechanism.ring ++ written ++ [.cut j.number true] }
      ∧ t.composer = { s.composer with jobs := before ++ printing :: after }
      ∧ Notified (.jobState ⟨j.number, j.kind, .composing, no, j.templateMissing, false⟩) t
      ∧ Notified (.jobState ⟨j.number, j.kind, .printing, no, printing.templateMissing, false⟩) t
      ∧ (¬ own → t = { s with link := t.link, mechanism := t.mechanism, composer := t.composer })
      ∧ (own → releasing → t.sale = composed ∧ t.lastSale = s.lastSale)
      ∧ (own → ¬ releasing → t.sale = { composed with state := .idle, lines := [] } ∧ t.lastSale = some composed
          ∧ Notified (.saleState .idle s.sale.number .closed ⟨0, 0, 0⟩ s.sale.change) t)) ∧
  (∀ (c : Composer) (n : NumberStyle) (cur : SaleRecord) (r : SaleRecord) (j : Job),
    (∀ ls, j.kind = .text → j.content = .text ls → jobElements c n cur (some r) j = ended c (ls.flatMap fun t => row c .report t [])) ∧
    (∀ (k : Fin 16) (g : Segment), j.kind = .segment → j.content = .segment k.val → c.segments[k] = some g →
      jobElements c n cur (some r) j = ended c (g.lines.map .line)) ∧
    (∀ k : Fin 16, j.kind = .segment → j.content = .segment k.val → c.segments[k] = none →
      jobElements c n cur (some r) j = ended c [.missing]) ∧
    (j.kind = .reprint → c.formats[kindIndex .header].printed = false → c.formats[kindIndex .footer].printed = false →
      let amount (x : Int) := amountText n.decimals n.separator x
      let card (f : CardPart → Text) (l : SaleLine) : Text := match l.card with | some p => f p | none => []
      jobElements c n cur (some r) j = ended c (row c .saleNo (decimal r.number) (ascii "COPY")
        ++ (r.lines.flatMap fun l => match l.kind with
          | .item => row c .item (if 1 < l.quantity.getD 1 then decimal (l.quantity.getD 1) ++ ascii " x " ++ l.description
              else l.description) (amount l.amount)
          | .weighed => row c .weighed l.description [] ++ row c .weighed (weightText n.separator (l.weight.getD 0)
              ++ ascii " kg @ " ++ amount (l.unitPrice.getD 0) ++ ascii "/kg") (amount l.amount)
          | .void => row c .void l.description (amount l.amount)
          | .discount => row c .discount (l.description ++ (match l.target with | some x => ascii " #" ++ decimal x | none => []))
              (amount l.amount)
          | _ => [])
        ++ row c .subtotal [] (amount (itemTotal r.lines))
        ++ (r.lines.flatMap fun l => match l.kind with
          | .cardTender => row c .cardTender (card (fun p => routeText p.route ++ 0x20#8 :: modeText p.mode
                ++ if p.partialFlag then ascii " PARTIAL" else []) l) (amount l.amount)
              ++ row c .cardTender (card CardPart.masked l) (card CardPart.approval l)
          | .cashTender => row c .cashTender l.description (amount l.amount)
          | _ => [])
        ++ (if r.change = 0 then [] else row c .change [] (amount r.change)))) ∧
    (∀ (e : FormatEntry) (t : Text), (e.widthScale = 1 ∨ e.widthScale = 2) → (e.heightScale = 1 ∨ e.heightScale = 2) →
      1 ≤ e.leftStart → e.leftStart ≤ e.rightEnd → t.length ≤ e.rightEnd + 1 - e.leftStart →
      let width := match e.font with | .a => 12 | .b => 9
      let height := match e.font with | .a => 24 | .b => 17
      let glyph (b : Byte) (y : Nat) : Nat :=
        match (match e.font with | .a => c.glyphsA | .b => c.glyphsB).toList.getD
          (if 0x20#8 ≤ b ∧ b ≤ 0x9F#8 then b.toNat - 0x20 else 0x1F) none with
        | some rows => rows.getD y 0
        | none => 0
      (∀ b y, glyph b y < 2 ^ width) →
      (drawRow c e t []).length = height * e.heightScale + e.spacing
        ∧ ∀ y x, let column := x / (width * e.widthScale)
          ((drawRow c e t []).getD y 0).testBit x = true ↔ y < height * e.heightScale ∧ e.leftStart ≤ column + 1
            ∧ ∃ b, t[column + 1 - e.leftStart]? = some b
              ∧ (glyph b (y / e.heightScale)).testBit (x % (width * e.widthScale) / e.widthScale) = true)) ∧
  (∀ (j : Job) (es : List Element) (e : Element) (rest : List Element) (s : State), Published s → s.composer.composing = true →
    s.composer.jobs.find? (fun k => k.state == .composing) = some j → s.composer.todo = es ++ e :: rest → es ≠ [] →
    (∀ x ∈ e :: es, (∃ d, x = .line d) ∨ ∃ ls, x = .row ls) → s.mechanism.ringLines + (es.flatMap lines).length ≤ 384 →
    384 < s.mechanism.ringLines + (es.flatMap lines).length + (lines e).length → s.mechanism.inProgress.isSome = true →
    exec .ringElementWritten s = .next { s with
      composer := { s.composer with todo := e :: rest }
      mechanism := { s.mechanism with ring := s.mechanism.ring ++ (es.flatMap lines).map fun d => .line d j.number } }) ∧
  (∀ (d : DotLine) (j : Nat) (ps : List SubPass) (e : RingElement) (rest : List RingElement) (s : State),
    s.mechanism.inProgress = some (.line d (some j) ps) → s.mechanism.ring = e :: rest →
    ∃ t, exec .dotLineEnd s = .next t ∧ t = { s with link := t.link, mechanism := t.mechanism } ∧ t.mechanism.ring = rest
      ∧ (s.mechanism.fault = none → s.mechanism.stopped = false → s.mechanism.hot = false →
          t.mechanism.previous = d ∧ t.mechanism.beforePrevious = s.mechanism.previous
          ∧ (∀ d' k more, rest = .line d' k :: more → s.mechanism.repeatCut = false → s.mechanism.continuation = [] →
              ∃ ps', t.mechanism.inProgress = some (.line d' (some k) ps'))
          ∧ (rest = [] → s.mechanism.repeatCut = false → s.mechanism.continuation = [] →
              t.mechanism.inProgress = none ∧ t.mechanism.state = .ready))
      ∧ (s.mechanism.fault.isSome = true ∨ s.mechanism.stopped = true ∨ s.mechanism.hot = true →
          t.mechanism.inProgress = none ∧ t.mechanism.previous = 0 ∧ t.mechanism.beforePrevious = 0)) ∧
  (∀ (j : Job) (e : RingElement) (rest : List RingElement) (s : State), FewWaiting s →
    s.mechanism.inProgress = some (.cut j.number true) → s.mechanism.ring = e :: rest → s.composer.jobs = [j] →
    j.state = .printing → j.cuts = 1 → s.sale.receipt ≠ .waitingRoom → Published s →
    ∃ t, exec .cutEnd s = .next t
      ∧ t = { s with
          link := t.link
          pins := { s.pins with cutterHome := true }
          mechanism := t.mechanism
          composer := { s.composer with jobs := [] } }
      ∧ t.mechanism.ring = rest ∧ t.mechanism.previous = 0 ∧ t.mechanism.beforePrevious = 0
      ∧ t.mechanism.repeatCut = false ∧ t.mechanism.cutterHome = true
      ∧ Notified (.jobState ⟨j.number, j.kind, .done, j.saleNumber, j.templateMissing, false⟩) t) ∧
  (∀ (home last : Bool) (j : Nat) (s : State), FewWaiting s → s.mechanism.inProgress = some (.cut j last) →
    ∃ t, exec (.cutJamExpiry home) s = .next t
      ∧ Shows { s with
          pins := { s.pins with cutterHome := home }
          mechanism := { s.mechanism with
            inProgress := none, fault := some .cutterJam, repeatCut := true, cutterHome := home
            previous := 0, beforePrevious := 0 } } t
      ∧ t.mechanism.state = .fault ∧ Cause.printerFault ∈ t.attention.causes
      ∧ (s.attention.causes = [] → t.attention.primary
          = some ⟨s.now, if s.sale.state = .idle then 0 else s.sale.number, 0, some 1, false⟩))

/-- The mechanism's inputs: a temperature gives the band and the hot latch, the third OPEN reading in a row the fault
THERMISTOR_OPEN with PRINTER_FAULT; paper out or an open cover sets the stop latch, which only an accepted RESUME_PRINT
clears, refused with STATE while a cause of it stands; near end and cutter home are noted, and home shown again in a cut
ends it as CUT_END does; PRINTER_STATE reports each change of paper, cover and near end (R152, R153, R156, R157, R158,
R159, R160).  That a change of cutter home sends no PRINTER_STATE is the model's reading (log entry 27). -/
def Obligations.PrinterInputsAndResume : Prop :=
  ∀ s : State, FewWaiting s →
    let m := s.mechanism
    (∀ x : Int, Published s → ∃ t, exec (.thermistorReading (some x)) s = .next t
      ∧ t = { s with link := t.link, pins := { s.pins with thermistor := some x }, mechanism := t.mechanism }
      ∧ t.mechanism.temperature = some x ∧ t.mechanism.openRun = 0
      ∧ ∃ b, t.mechanism.band = some b ∧ b = (m.heat.thresholds.toList.filter (· ≤ x)).length
        ∧ t.mechanism.hot = (if b = 7 then true else if b ≤ 5 then false else m.hot)
        ∧ t.mechanism.fault = m.fault ∧ t.mechanism.stopped = m.stopped ∧ t.mechanism.ring = m.ring) ∧
    (m.openRun < 2 → Published s → exec (.thermistorReading none) s
      = .next { s with pins := { s.pins with thermistor := none }, mechanism := { m with openRun := m.openRun + 1 } }) ∧
    (m.openRun = 2 → ∃ t, exec .thermistorOpenFault s = .next t ∧ exec (.thermistorReading none) s = .next t
      ∧ Shows { s with pins := { s.pins with thermistor := none }, mechanism := t.mechanism } t
      ∧ t.mechanism.fault = some .thermistorOpen ∧ t.mechanism.temperature = none ∧ t.mechanism.band = none
      ∧ t.mechanism.openRun = 3 ∧ t.mechanism.ring = m.ring ∧ Cause.printerFault ∈ t.attention.causes) ∧
    (∀ v : Bool, m.paperPresent ≠ v → ∃ t, exec (.paperPresentChange v) s = .next t
      ∧ t = { s with link := t.link, pins := { s.pins with paperPresent := v }, mechanism := t.mechanism }
      ∧ t.mechanism.paperPresent = v ∧ t.mechanism.stopped = (m.stopped || !v) ∧ t.mechanism.ring = m.ring
      ∧ ∃ n, Notified (.printerState n) t ∧ n.paperPresent = v ∧ n.state = t.mechanism.state) ∧
    (∀ v : Bool, m.coverClosed ≠ v → ∃ t, exec (.coverClosedChange v) s = .next t
      ∧ t = { s with link := t.link, pins := { s.pins with coverClosed := v }, mechanism := t.mechanism }
      ∧ t.mechanism.coverClosed = v ∧ t.mechanism.stopped = (m.stopped || !v) ∧ t.mechanism.ring = m.ring
      ∧ ∃ n, Notified (.printerState n) t ∧ n.coverClosed = v ∧ n.state = t.mechanism.state) ∧
    (∀ v : Bool, m.paperNearEnd ≠ v → ∃ t, exec (.paperNearEndChange v) s = .next t
      ∧ t = { s with link := t.link, pins := { s.pins with paperNearEnd := v }, mechanism := t.mechanism }
      ∧ t.mechanism.paperNearEnd = v ∧ t.mechanism.stopped = m.stopped ∧ t.mechanism.ring = m.ring
      ∧ ∃ n, Notified (.printerState n) t ∧ n.paperNearEnd = v) ∧
    (∀ v : Bool, (v = false ∨ m.cutterHome = true ∨ ∀ job last, m.inProgress ≠ some (.cut job last)) →
      exec (.cutterHomeChange v) s
        = .next { s with pins := { s.pins with cutterHome := v }, mechanism := { m with cutterHome := v } }) ∧
    (∀ job last, m.inProgress = some (.cut job last) → m.cutterHome = false →
      ∃ t, exec (.cutterHomeChange true) s = .next t ∧ exec .cutEnd s = .next t) ∧
    (s.routes .print = true → Published s →
      (m.state ≠ .suspended ∨ m.paperPresent = false ∨ m.coverClosed = false → exec .resumePrint s
        = .next (replyRefused .print .resumePrint .state (markUnanswered .print s))) ∧
      (m.state = .suspended → m.paperPresent = true → m.coverClosed = true → ∃ t, exec .resumePrint s = .next t
        ∧ t = { s with link := t.link, mechanism := t.mechanism, composer := { s.composer with continuation := t.mechanism.continuation } }
        ∧ t.mechanism.stopped = false ∧ t.mechanism.ring = m.ring
        ∧ (m.ring = [] → t.mechanism.continuation = [])
        ∧ Issued ⟨.print, .resumePrint, .done (.resumed t.mechanism.state t.mechanism.continuation.length)⟩ t))
end

