-- ==== Sys2Proof/Laws/State.lean ====
section
/-! SUPPORT. One lemma per field per record update of the model: what an update writes, and that it writes
nothing else. -/

namespace Sys2Proof.Machine

variable (s : State)

@[simp] theorem pushFrame_pending (f : Frame) : (pushFrame f s).pending = s.pending := rfl
@[simp] theorem pushFrame_pins (f : Frame) : (pushFrame f s).pins = s.pins := rfl
@[simp] theorem pushFrame_now (f : Frame) : (pushFrame f s).now = s.now := rfl
@[simp] theorem pushFrame_link (f : Frame) : (pushFrame f s).link = { s.link with queue := s.link.queue ++ [f] } := rfl
@[simp] theorem pushFrame_lane (f : Frame) : (pushFrame f s).lane = s.lane := rfl
@[simp] theorem pushFrame_bus (f : Frame) : (pushFrame f s).bus = s.bus := rfl
@[simp] theorem pushFrame_attention (f : Frame) : (pushFrame f s).attention = s.attention := rfl
@[simp] theorem pushFrame_scan (f : Frame) : (pushFrame f s).scan = s.scan := rfl
@[simp] theorem pushFrame_cache (f : Frame) : (pushFrame f s).cache = s.cache := rfl
@[simp] theorem pushFrame_w0 (f : Frame) : (pushFrame f s).w0 = s.w0 := rfl
@[simp] theorem pushFrame_w1 (f : Frame) : (pushFrame f s).w1 = s.w1 := rfl
@[simp] theorem pushFrame_bagging (f : Frame) : (pushFrame f s).bagging = s.bagging := rfl
@[simp] theorem pushFrame_sale (f : Frame) : (pushFrame f s).sale = s.sale := rfl
@[simp] theorem pushFrame_lastSale (f : Frame) : (pushFrame f s).lastSale = s.lastSale := rfl
@[simp] theorem pushFrame_card (f : Frame) : (pushFrame f s).card = s.card := rfl
@[simp] theorem pushFrame_drawer (f : Frame) : (pushFrame f s).drawer = s.drawer := rfl
@[simp] theorem pushFrame_composer (f : Frame) : (pushFrame f s).composer = s.composer := rfl
@[simp] theorem pushFrame_mechanism (f : Frame) : (pushFrame f s).mechanism = s.mechanism := rfl

@[simp] theorem countBadFrame_pending : (countBadFrame s).pending = s.pending := rfl
@[simp] theorem countBadFrame_pins : (countBadFrame s).pins = s.pins := rfl
@[simp] theorem countBadFrame_now : (countBadFrame s).now = s.now := rfl
@[simp] theorem countBadFrame_link : (countBadFrame s).link = { s.link with badFrames := min 65535 (s.link.badFrames + 1) } := rfl
@[simp] theorem countBadFrame_lane : (countBadFrame s).lane = s.lane := rfl
@[simp] theorem countBadFrame_bus : (countBadFrame s).bus = s.bus := rfl
@[simp] theorem countBadFrame_attention : (countBadFrame s).attention = s.attention := rfl
@[simp] theorem countBadFrame_scan : (countBadFrame s).scan = s.scan := rfl
@[simp] theorem countBadFrame_cache : (countBadFrame s).cache = s.cache := rfl
@[simp] theorem countBadFrame_w0 : (countBadFrame s).w0 = s.w0 := rfl
@[simp] theorem countBadFrame_w1 : (countBadFrame s).w1 = s.w1 := rfl
@[simp] theorem countBadFrame_bagging : (countBadFrame s).bagging = s.bagging := rfl
@[simp] theorem countBadFrame_sale : (countBadFrame s).sale = s.sale := rfl
@[simp] theorem countBadFrame_lastSale : (countBadFrame s).lastSale = s.lastSale := rfl
@[simp] theorem countBadFrame_card : (countBadFrame s).card = s.card := rfl
@[simp] theorem countBadFrame_drawer : (countBadFrame s).drawer = s.drawer := rfl
@[simp] theorem countBadFrame_composer : (countBadFrame s).composer = s.composer := rfl
@[simp] theorem countBadFrame_mechanism : (countBadFrame s).mechanism = s.mechanism := rfl

@[simp] theorem setSeal_pending (v : Bool) : (setSeal v s).pending = s.pending := rfl
@[simp] theorem setSeal_pins (v : Bool) : (setSeal v s).pins = { s.pins with sealOpen := v } := rfl
@[simp] theorem setSeal_now (v : Bool) : (setSeal v s).now = s.now := rfl
@[simp] theorem setSeal_link (v : Bool) : (setSeal v s).link = s.link := rfl
@[simp] theorem setSeal_lane (v : Bool) : (setSeal v s).lane = s.lane := rfl
@[simp] theorem setSeal_bus (v : Bool) : (setSeal v s).bus = s.bus := rfl
@[simp] theorem setSeal_attention (v : Bool) : (setSeal v s).attention = s.attention := rfl
@[simp] theorem setSeal_scan (v : Bool) : (setSeal v s).scan = s.scan := rfl
@[simp] theorem setSeal_cache (v : Bool) : (setSeal v s).cache = s.cache := rfl
@[simp] theorem setSeal_w0 (v : Bool) : (setSeal v s).w0 = s.w0 := rfl
@[simp] theorem setSeal_w1 (v : Bool) : (setSeal v s).w1 = s.w1 := rfl
@[simp] theorem setSeal_bagging (v : Bool) : (setSeal v s).bagging = s.bagging := rfl
@[simp] theorem setSeal_sale (v : Bool) : (setSeal v s).sale = s.sale := rfl
@[simp] theorem setSeal_lastSale (v : Bool) : (setSeal v s).lastSale = s.lastSale := rfl
@[simp] theorem setSeal_card (v : Bool) : (setSeal v s).card = s.card := rfl
@[simp] theorem setSeal_drawer (v : Bool) : (setSeal v s).drawer = s.drawer := rfl
@[simp] theorem setSeal_composer (v : Bool) : (setSeal v s).composer = s.composer := rfl
@[simp] theorem setSeal_mechanism (v : Bool) : (setSeal v s).mechanism = s.mechanism := rfl

@[simp] theorem transmitted_pending (f : Frame) : (transmitted f s).pending = s.pending := rfl
@[simp] theorem transmitted_pins (f : Frame) : (transmitted f s).pins = s.pins := rfl
@[simp] theorem transmitted_now (f : Frame) : (transmitted f s).now = s.now := rfl
@[simp] theorem transmitted_link (f : Frame) : (transmitted f s).link = { s.link with lastSent := f.bytes } := rfl
@[simp] theorem transmitted_lane (f : Frame) : (transmitted f s).lane = s.lane := rfl
@[simp] theorem transmitted_bus (f : Frame) : (transmitted f s).bus = s.bus := rfl
@[simp] theorem transmitted_attention (f : Frame) : (transmitted f s).attention = s.attention := rfl
@[simp] theorem transmitted_scan (f : Frame) : (transmitted f s).scan = s.scan := rfl
@[simp] theorem transmitted_cache (f : Frame) : (transmitted f s).cache = s.cache := rfl
@[simp] theorem transmitted_w0 (f : Frame) : (transmitted f s).w0 = s.w0 := rfl
@[simp] theorem transmitted_w1 (f : Frame) : (transmitted f s).w1 = s.w1 := rfl
@[simp] theorem transmitted_bagging (f : Frame) : (transmitted f s).bagging = s.bagging := rfl
@[simp] theorem transmitted_sale (f : Frame) : (transmitted f s).sale = s.sale := rfl
@[simp] theorem transmitted_lastSale (f : Frame) : (transmitted f s).lastSale = s.lastSale := rfl
@[simp] theorem transmitted_card (f : Frame) : (transmitted f s).card = s.card := rfl
@[simp] theorem transmitted_drawer (f : Frame) : (transmitted f s).drawer = s.drawer := rfl
@[simp] theorem transmitted_composer (f : Frame) : (transmitted f s).composer = s.composer := rfl
@[simp] theorem transmitted_mechanism (f : Frame) : (transmitted f s).mechanism = s.mechanism := rfl

@[simp] theorem recordSetting_pending (k : PromptKind) : (recordSetting k s).pending = s.pending := rfl
@[simp] theorem recordSetting_pins (k : PromptKind) : (recordSetting k s).pins = s.pins := rfl
@[simp] theorem recordSetting_now (k : PromptKind) : (recordSetting k s).now = s.now := rfl
@[simp] theorem recordSetting_link (k : PromptKind) : (recordSetting k s).link = s.link := rfl
@[simp] theorem recordSetting_lane (k : PromptKind) : (recordSetting k s).lane = s.lane := rfl
@[simp] theorem recordSetting_bus (k : PromptKind) : (recordSetting k s).bus = s.bus := rfl
@[simp] theorem recordSetting_attention (k : PromptKind) : (recordSetting k s).attention = { s.attention with silent := (recordSetting k s).attention.silent } := rfl
@[simp] theorem recordSetting_scan (k : PromptKind) : (recordSetting k s).scan = s.scan := rfl
@[simp] theorem recordSetting_cache (k : PromptKind) : (recordSetting k s).cache = s.cache := rfl
@[simp] theorem recordSetting_w0 (k : PromptKind) : (recordSetting k s).w0 = s.w0 := rfl
@[simp] theorem recordSetting_w1 (k : PromptKind) : (recordSetting k s).w1 = s.w1 := rfl
@[simp] theorem recordSetting_bagging (k : PromptKind) : (recordSetting k s).bagging = s.bagging := rfl
@[simp] theorem recordSetting_sale (k : PromptKind) : (recordSetting k s).sale = s.sale := rfl
@[simp] theorem recordSetting_lastSale (k : PromptKind) : (recordSetting k s).lastSale = s.lastSale := rfl
@[simp] theorem recordSetting_card (k : PromptKind) : (recordSetting k s).card = s.card := rfl
@[simp] theorem recordSetting_drawer (k : PromptKind) : (recordSetting k s).drawer = s.drawer := rfl
@[simp] theorem recordSetting_composer (k : PromptKind) : (recordSetting k s).composer = s.composer := rfl
@[simp] theorem recordSetting_mechanism (k : PromptKind) : (recordSetting k s).mechanism = s.mechanism := rfl

@[simp] theorem markUnanswered_pending (a : Address) : (markUnanswered a s).pending = s.pending := rfl
@[simp] theorem markUnanswered_pins (a : Address) : (markUnanswered a s).pins = s.pins := rfl
@[simp] theorem markUnanswered_now (a : Address) : (markUnanswered a s).now = s.now := rfl
@[simp] theorem markUnanswered_link (a : Address) : (markUnanswered a s).link = { s.link with unanswered := s.link.unanswered ++ [a] } := rfl
@[simp] theorem markUnanswered_lane (a : Address) : (markUnanswered a s).lane = s.lane := rfl
@[simp] theorem markUnanswered_bus (a : Address) : (markUnanswered a s).bus = s.bus := rfl
@[simp] theorem markUnanswered_attention (a : Address) : (markUnanswered a s).attention = s.attention := rfl
@[simp] theorem markUnanswered_scan (a : Address) : (markUnanswered a s).scan = s.scan := rfl
@[simp] theorem markUnanswered_cache (a : Address) : (markUnanswered a s).cache = s.cache := rfl
@[simp] theorem markUnanswered_w0 (a : Address) : (markUnanswered a s).w0 = s.w0 := rfl
@[simp] theorem markUnanswered_w1 (a : Address) : (markUnanswered a s).w1 = s.w1 := rfl
@[simp] theorem markUnanswered_bagging (a : Address) : (markUnanswered a s).bagging = s.bagging := rfl
@[simp] theorem markUnanswered_sale (a : Address) : (markUnanswered a s).sale = s.sale := rfl
@[simp] theorem markUnanswered_lastSale (a : Address) : (markUnanswered a s).lastSale = s.lastSale := rfl
@[simp] theorem markUnanswered_card (a : Address) : (markUnanswered a s).card = s.card := rfl
@[simp] theorem markUnanswered_drawer (a : Address) : (markUnanswered a s).drawer = s.drawer := rfl
@[simp] theorem markUnanswered_composer (a : Address) : (markUnanswered a s).composer = s.composer := rfl
@[simp] theorem markUnanswered_mechanism (a : Address) : (markUnanswered a s).mechanism = s.mechanism := rfl

@[simp] theorem setReceiver_pending (p : RxPhase) (b : List Byte) : (setReceiver p b s).pending = s.pending := rfl
@[simp] theorem setReceiver_pins (p : RxPhase) (b : List Byte) : (setReceiver p b s).pins = s.pins := rfl
@[simp] theorem setReceiver_now (p : RxPhase) (b : List Byte) : (setReceiver p b s).now = s.now := rfl
@[simp] theorem setReceiver_link (p : RxPhase) (b : List Byte) : (setReceiver p b s).link = { s.link with phase := p, assembly := b } := rfl
@[simp] theorem setReceiver_lane (p : RxPhase) (b : List Byte) : (setReceiver p b s).lane = s.lane := rfl
@[simp] theorem setReceiver_bus (p : RxPhase) (b : List Byte) : (setReceiver p b s).bus = s.bus := rfl
@[simp] theorem setReceiver_attention (p : RxPhase) (b : List Byte) : (setReceiver p b s).attention = s.attention := rfl
@[simp] theorem setReceiver_scan (p : RxPhase) (b : List Byte) : (setReceiver p b s).scan = s.scan := rfl
@[simp] theorem setReceiver_cache (p : RxPhase) (b : List Byte) : (setReceiver p b s).cache = s.cache := rfl
@[simp] theorem setReceiver_w0 (p : RxPhase) (b : List Byte) : (setReceiver p b s).w0 = s.w0 := rfl
@[simp] theorem setReceiver_w1 (p : RxPhase) (b : List Byte) : (setReceiver p b s).w1 = s.w1 := rfl
@[simp] theorem setReceiver_bagging (p : RxPhase) (b : List Byte) : (setReceiver p b s).bagging = s.bagging := rfl
@[simp] theorem setReceiver_sale (p : RxPhase) (b : List Byte) : (setReceiver p b s).sale = s.sale := rfl
@[simp] theorem setReceiver_lastSale (p : RxPhase) (b : List Byte) : (setReceiver p b s).lastSale = s.lastSale := rfl
@[simp] theorem setReceiver_card (p : RxPhase) (b : List Byte) : (setReceiver p b s).card = s.card := rfl
@[simp] theorem setReceiver_drawer (p : RxPhase) (b : List Byte) : (setReceiver p b s).drawer = s.drawer := rfl
@[simp] theorem setReceiver_composer (p : RxPhase) (b : List Byte) : (setReceiver p b s).composer = s.composer := rfl
@[simp] theorem setReceiver_mechanism (p : RxPhase) (b : List Byte) : (setReceiver p b s).mechanism = s.mechanism := rfl

@[simp] theorem setLane_pending (l : Lane) : (setLane l s).pending = s.pending := rfl
@[simp] theorem setLane_pins (l : Lane) : (setLane l s).pins = s.pins := rfl
@[simp] theorem setLane_now (l : Lane) : (setLane l s).now = s.now := rfl
@[simp] theorem setLane_link (l : Lane) : (setLane l s).link = s.link := rfl
@[simp] theorem setLane_lane (l : Lane) : (setLane l s).lane = l := rfl
@[simp] theorem setLane_bus (l : Lane) : (setLane l s).bus = s.bus := rfl
@[simp] theorem setLane_attention (l : Lane) : (setLane l s).attention = s.attention := rfl
@[simp] theorem setLane_scan (l : Lane) : (setLane l s).scan = s.scan := rfl
@[simp] theorem setLane_cache (l : Lane) : (setLane l s).cache = s.cache := rfl
@[simp] theorem setLane_w0 (l : Lane) : (setLane l s).w0 = s.w0 := rfl
@[simp] theorem setLane_w1 (l : Lane) : (setLane l s).w1 = s.w1 := rfl
@[simp] theorem setLane_bagging (l : Lane) : (setLane l s).bagging = s.bagging := rfl
@[simp] theorem setLane_sale (l : Lane) : (setLane l s).sale = s.sale := rfl
@[simp] theorem setLane_lastSale (l : Lane) : (setLane l s).lastSale = s.lastSale := rfl
@[simp] theorem setLane_card (l : Lane) : (setLane l s).card = s.card := rfl
@[simp] theorem setLane_drawer (l : Lane) : (setLane l s).drawer = s.drawer := rfl
@[simp] theorem setLane_composer (l : Lane) : (setLane l s).composer = s.composer := rfl
@[simp] theorem setLane_mechanism (l : Lane) : (setLane l s).mechanism = s.mechanism := rfl

@[simp] theorem setBagging_pending (b : Bagging) : (setBagging b s).pending = s.pending := rfl
@[simp] theorem setBagging_pins (b : Bagging) : (setBagging b s).pins = s.pins := rfl
@[simp] theorem setBagging_now (b : Bagging) : (setBagging b s).now = s.now := rfl
@[simp] theorem setBagging_link (b : Bagging) : (setBagging b s).link = s.link := rfl
@[simp] theorem setBagging_lane (b : Bagging) : (setBagging b s).lane = s.lane := rfl
@[simp] theorem setBagging_bus (b : Bagging) : (setBagging b s).bus = s.bus := rfl
@[simp] theorem setBagging_attention (b : Bagging) : (setBagging b s).attention = s.attention := rfl
@[simp] theorem setBagging_scan (b : Bagging) : (setBagging b s).scan = s.scan := rfl
@[simp] theorem setBagging_cache (b : Bagging) : (setBagging b s).cache = s.cache := rfl
@[simp] theorem setBagging_w0 (b : Bagging) : (setBagging b s).w0 = s.w0 := rfl
@[simp] theorem setBagging_w1 (b : Bagging) : (setBagging b s).w1 = s.w1 := rfl
@[simp] theorem setBagging_bagging (b : Bagging) : (setBagging b s).bagging = b := rfl
@[simp] theorem setBagging_sale (b : Bagging) : (setBagging b s).sale = s.sale := rfl
@[simp] theorem setBagging_lastSale (b : Bagging) : (setBagging b s).lastSale = s.lastSale := rfl
@[simp] theorem setBagging_card (b : Bagging) : (setBagging b s).card = s.card := rfl
@[simp] theorem setBagging_drawer (b : Bagging) : (setBagging b s).drawer = s.drawer := rfl
@[simp] theorem setBagging_composer (b : Bagging) : (setBagging b s).composer = s.composer := rfl
@[simp] theorem setBagging_mechanism (b : Bagging) : (setBagging b s).mechanism = s.mechanism := rfl

@[simp] theorem setLines_pending (ls : List SaleLine) : (setLines ls s).pending = s.pending := rfl
@[simp] theorem setLines_pins (ls : List SaleLine) : (setLines ls s).pins = s.pins := rfl
@[simp] theorem setLines_now (ls : List SaleLine) : (setLines ls s).now = s.now := rfl
@[simp] theorem setLines_link (ls : List SaleLine) : (setLines ls s).link = s.link := rfl
@[simp] theorem setLines_lane (ls : List SaleLine) : (setLines ls s).lane = s.lane := rfl
@[simp] theorem setLines_bus (ls : List SaleLine) : (setLines ls s).bus = s.bus := rfl
@[simp] theorem setLines_attention (ls : List SaleLine) : (setLines ls s).attention = s.attention := rfl
@[simp] theorem setLines_scan (ls : List SaleLine) : (setLines ls s).scan = s.scan := rfl
@[simp] theorem setLines_cache (ls : List SaleLine) : (setLines ls s).cache = s.cache := rfl
@[simp] theorem setLines_w0 (ls : List SaleLine) : (setLines ls s).w0 = s.w0 := rfl
@[simp] theorem setLines_w1 (ls : List SaleLine) : (setLines ls s).w1 = s.w1 := rfl
@[simp] theorem setLines_bagging (ls : List SaleLine) : (setLines ls s).bagging = s.bagging := rfl
@[simp] theorem setLines_sale (ls : List SaleLine) : (setLines ls s).sale = { s.sale with lines := ls } := rfl
@[simp] theorem setLines_lastSale (ls : List SaleLine) : (setLines ls s).lastSale = s.lastSale := rfl
@[simp] theorem setLines_card (ls : List SaleLine) : (setLines ls s).card = s.card := rfl
@[simp] theorem setLines_drawer (ls : List SaleLine) : (setLines ls s).drawer = s.drawer := rfl
@[simp] theorem setLines_composer (ls : List SaleLine) : (setLines ls s).composer = s.composer := rfl
@[simp] theorem setLines_mechanism (ls : List SaleLine) : (setLines ls s).mechanism = s.mechanism := rfl

@[simp] theorem setSaleState_pending (x : SaleState) : (setSaleState x s).pending = s.pending := rfl
@[simp] theorem setSaleState_pins (x : SaleState) : (setSaleState x s).pins = s.pins := rfl
@[simp] theorem setSaleState_now (x : SaleState) : (setSaleState x s).now = s.now := rfl
@[simp] theorem setSaleState_link (x : SaleState) : (setSaleState x s).link = s.link := rfl
@[simp] theorem setSaleState_lane (x : SaleState) : (setSaleState x s).lane = s.lane := rfl
@[simp] theorem setSaleState_bus (x : SaleState) : (setSaleState x s).bus = s.bus := rfl
@[simp] theorem setSaleState_attention (x : SaleState) : (setSaleState x s).attention = s.attention := rfl
@[simp] theorem setSaleState_scan (x : SaleState) : (setSaleState x s).scan = s.scan := rfl
@[simp] theorem setSaleState_cache (x : SaleState) : (setSaleState x s).cache = s.cache := rfl
@[simp] theorem setSaleState_w0 (x : SaleState) : (setSaleState x s).w0 = s.w0 := rfl
@[simp] theorem setSaleState_w1 (x : SaleState) : (setSaleState x s).w1 = s.w1 := rfl
@[simp] theorem setSaleState_bagging (x : SaleState) : (setSaleState x s).bagging = s.bagging := rfl
@[simp] theorem setSaleState_sale (x : SaleState) : (setSaleState x s).sale = { s.sale with state := x } := rfl
@[simp] theorem setSaleState_lastSale (x : SaleState) : (setSaleState x s).lastSale = s.lastSale := rfl
@[simp] theorem setSaleState_card (x : SaleState) : (setSaleState x s).card = s.card := rfl
@[simp] theorem setSaleState_drawer (x : SaleState) : (setSaleState x s).drawer = s.drawer := rfl
@[simp] theorem setSaleState_composer (x : SaleState) : (setSaleState x s).composer = s.composer := rfl
@[simp] theorem setSaleState_mechanism (x : SaleState) : (setSaleState x s).mechanism = s.mechanism := rfl

@[simp] theorem setReceipt_pending (r : ReceiptState) (p : Option JobParts) : (setReceipt r p s).pending = s.pending := rfl
@[simp] theorem setReceipt_pins (r : ReceiptState) (p : Option JobParts) : (setReceipt r p s).pins = s.pins := rfl
@[simp] theorem setReceipt_now (r : ReceiptState) (p : Option JobParts) : (setReceipt r p s).now = s.now := rfl
@[simp] theorem setReceipt_link (r : ReceiptState) (p : Option JobParts) : (setReceipt r p s).link = s.link := rfl
@[simp] theorem setReceipt_lane (r : ReceiptState) (p : Option JobParts) : (setReceipt r p s).lane = s.lane := rfl
@[simp] theorem setReceipt_bus (r : ReceiptState) (p : Option JobParts) : (setReceipt r p s).bus = s.bus := rfl
@[simp] theorem setReceipt_attention (r : ReceiptState) (p : Option JobParts) : (setReceipt r p s).attention = s.attention := rfl
@[simp] theorem setReceipt_scan (r : ReceiptState) (p : Option JobParts) : (setReceipt r p s).scan = s.scan := rfl
@[simp] theorem setReceipt_cache (r : ReceiptState) (p : Option JobParts) : (setReceipt r p s).cache = s.cache := rfl
@[simp] theorem setReceipt_w0 (r : ReceiptState) (p : Option JobParts) : (setReceipt r p s).w0 = s.w0 := rfl
@[simp] theorem setReceipt_w1 (r : ReceiptState) (p : Option JobParts) : (setReceipt r p s).w1 = s.w1 := rfl
@[simp] theorem setReceipt_bagging (r : ReceiptState) (p : Option JobParts) : (setReceipt r p s).bagging = s.bagging := rfl
@[simp] theorem setReceipt_sale (r : ReceiptState) (p : Option JobParts) : (setReceipt r p s).sale = { s.sale with receipt := r, claim := p } := rfl
@[simp] theorem setReceipt_lastSale (r : ReceiptState) (p : Option JobParts) : (setReceipt r p s).lastSale = s.lastSale := rfl
@[simp] theorem setReceipt_card (r : ReceiptState) (p : Option JobParts) : (setReceipt r p s).card = s.card := rfl
@[simp] theorem setReceipt_drawer (r : ReceiptState) (p : Option JobParts) : (setReceipt r p s).drawer = s.drawer := rfl
@[simp] theorem setReceipt_composer (r : ReceiptState) (p : Option JobParts) : (setReceipt r p s).composer = s.composer := rfl
@[simp] theorem setReceipt_mechanism (r : ReceiptState) (p : Option JobParts) : (setReceipt r p s).mechanism = s.mechanism := rfl

@[simp] theorem setQueue_pending (q : List ScanEntry) : (setQueue q s).pending = s.pending := rfl
@[simp] theorem setQueue_pins (q : List ScanEntry) : (setQueue q s).pins = s.pins := rfl
@[simp] theorem setQueue_now (q : List ScanEntry) : (setQueue q s).now = s.now := rfl
@[simp] theorem setQueue_link (q : List ScanEntry) : (setQueue q s).link = s.link := rfl
@[simp] theorem setQueue_lane (q : List ScanEntry) : (setQueue q s).lane = s.lane := rfl
@[simp] theorem setQueue_bus (q : List ScanEntry) : (setQueue q s).bus = s.bus := rfl
@[simp] theorem setQueue_attention (q : List ScanEntry) : (setQueue q s).attention = s.attention := rfl
@[simp] theorem setQueue_scan (q : List ScanEntry) : (setQueue q s).scan = { s.scan with queue := q } := rfl
@[simp] theorem setQueue_cache (q : List ScanEntry) : (setQueue q s).cache = s.cache := rfl
@[simp] theorem setQueue_w0 (q : List ScanEntry) : (setQueue q s).w0 = s.w0 := rfl
@[simp] theorem setQueue_w1 (q : List ScanEntry) : (setQueue q s).w1 = s.w1 := rfl
@[simp] theorem setQueue_bagging (q : List ScanEntry) : (setQueue q s).bagging = s.bagging := rfl
@[simp] theorem setQueue_sale (q : List ScanEntry) : (setQueue q s).sale = s.sale := rfl
@[simp] theorem setQueue_lastSale (q : List ScanEntry) : (setQueue q s).lastSale = s.lastSale := rfl
@[simp] theorem setQueue_card (q : List ScanEntry) : (setQueue q s).card = s.card := rfl
@[simp] theorem setQueue_drawer (q : List ScanEntry) : (setQueue q s).drawer = s.drawer := rfl
@[simp] theorem setQueue_composer (q : List ScanEntry) : (setQueue q s).composer = s.composer := rfl
@[simp] theorem setQueue_mechanism (q : List ScanEntry) : (setQueue q s).mechanism = s.mechanism := rfl

@[simp] theorem setLookups_pending (l : List Lookup) : (setLookups l s).pending = s.pending := rfl
@[simp] theorem setLookups_pins (l : List Lookup) : (setLookups l s).pins = s.pins := rfl
@[simp] theorem setLookups_now (l : List Lookup) : (setLookups l s).now = s.now := rfl
@[simp] theorem setLookups_link (l : List Lookup) : (setLookups l s).link = s.link := rfl
@[simp] theorem setLookups_lane (l : List Lookup) : (setLookups l s).lane = s.lane := rfl
@[simp] theorem setLookups_bus (l : List Lookup) : (setLookups l s).bus = s.bus := rfl
@[simp] theorem setLookups_attention (l : List Lookup) : (setLookups l s).attention = s.attention := rfl
@[simp] theorem setLookups_scan (l : List Lookup) : (setLookups l s).scan = { s.scan with lookups := l } := rfl
@[simp] theorem setLookups_cache (l : List Lookup) : (setLookups l s).cache = s.cache := rfl
@[simp] theorem setLookups_w0 (l : List Lookup) : (setLookups l s).w0 = s.w0 := rfl
@[simp] theorem setLookups_w1 (l : List Lookup) : (setLookups l s).w1 = s.w1 := rfl
@[simp] theorem setLookups_bagging (l : List Lookup) : (setLookups l s).bagging = s.bagging := rfl
@[simp] theorem setLookups_sale (l : List Lookup) : (setLookups l s).sale = s.sale := rfl
@[simp] theorem setLookups_lastSale (l : List Lookup) : (setLookups l s).lastSale = s.lastSale := rfl
@[simp] theorem setLookups_card (l : List Lookup) : (setLookups l s).card = s.card := rfl
@[simp] theorem setLookups_drawer (l : List Lookup) : (setLookups l s).drawer = s.drawer := rfl
@[simp] theorem setLookups_composer (l : List Lookup) : (setLookups l s).composer = s.composer := rfl
@[simp] theorem setLookups_mechanism (l : List Lookup) : (setLookups l s).mechanism = s.mechanism := rfl

@[simp] theorem setCapture_pending (c : Capture) : (setCapture c s).pending = s.pending := rfl
@[simp] theorem setCapture_pins (c : Capture) : (setCapture c s).pins = s.pins := rfl
@[simp] theorem setCapture_now (c : Capture) : (setCapture c s).now = s.now := rfl
@[simp] theorem setCapture_link (c : Capture) : (setCapture c s).link = s.link := rfl
@[simp] theorem setCapture_lane (c : Capture) : (setCapture c s).lane = s.lane := rfl
@[simp] theorem setCapture_bus (c : Capture) : (setCapture c s).bus = s.bus := rfl
@[simp] theorem setCapture_attention (c : Capture) : (setCapture c s).attention = s.attention := rfl
@[simp] theorem setCapture_scan (c : Capture) : (setCapture c s).scan = { s.scan with capture := some c } := rfl
@[simp] theorem setCapture_cache (c : Capture) : (setCapture c s).cache = s.cache := rfl
@[simp] theorem setCapture_w0 (c : Capture) : (setCapture c s).w0 = s.w0 := rfl
@[simp] theorem setCapture_w1 (c : Capture) : (setCapture c s).w1 = s.w1 := rfl
@[simp] theorem setCapture_bagging (c : Capture) : (setCapture c s).bagging = s.bagging := rfl
@[simp] theorem setCapture_sale (c : Capture) : (setCapture c s).sale = s.sale := rfl
@[simp] theorem setCapture_lastSale (c : Capture) : (setCapture c s).lastSale = s.lastSale := rfl
@[simp] theorem setCapture_card (c : Capture) : (setCapture c s).card = s.card := rfl
@[simp] theorem setCapture_drawer (c : Capture) : (setCapture c s).drawer = s.drawer := rfl
@[simp] theorem setCapture_composer (c : Capture) : (setCapture c s).composer = s.composer := rfl
@[simp] theorem setCapture_mechanism (c : Capture) : (setCapture c s).mechanism = s.mechanism := rfl

@[simp] theorem modifyEntry_pending (i : Nat) (f : ScanEntry → ScanEntry) : (modifyEntry i f s).pending = s.pending := rfl
@[simp] theorem modifyEntry_pins (i : Nat) (f : ScanEntry → ScanEntry) : (modifyEntry i f s).pins = s.pins := rfl
@[simp] theorem modifyEntry_now (i : Nat) (f : ScanEntry → ScanEntry) : (modifyEntry i f s).now = s.now := rfl
@[simp] theorem modifyEntry_link (i : Nat) (f : ScanEntry → ScanEntry) : (modifyEntry i f s).link = s.link := rfl
@[simp] theorem modifyEntry_lane (i : Nat) (f : ScanEntry → ScanEntry) : (modifyEntry i f s).lane = s.lane := rfl
@[simp] theorem modifyEntry_bus (i : Nat) (f : ScanEntry → ScanEntry) : (modifyEntry i f s).bus = s.bus := rfl
@[simp] theorem modifyEntry_attention (i : Nat) (f : ScanEntry → ScanEntry) : (modifyEntry i f s).attention = s.attention := rfl
@[simp] theorem modifyEntry_scan (i : Nat) (f : ScanEntry → ScanEntry) : (modifyEntry i f s).scan = { s.scan with queue := s.scan.queue.modify i f } := rfl
@[simp] theorem modifyEntry_cache (i : Nat) (f : ScanEntry → ScanEntry) : (modifyEntry i f s).cache = s.cache := rfl
@[simp] theorem modifyEntry_w0 (i : Nat) (f : ScanEntry → ScanEntry) : (modifyEntry i f s).w0 = s.w0 := rfl
@[simp] theorem modifyEntry_w1 (i : Nat) (f : ScanEntry → ScanEntry) : (modifyEntry i f s).w1 = s.w1 := rfl
@[simp] theorem modifyEntry_bagging (i : Nat) (f : ScanEntry → ScanEntry) : (modifyEntry i f s).bagging = s.bagging := rfl
@[simp] theorem modifyEntry_sale (i : Nat) (f : ScanEntry → ScanEntry) : (modifyEntry i f s).sale = s.sale := rfl
@[simp] theorem modifyEntry_lastSale (i : Nat) (f : ScanEntry → ScanEntry) : (modifyEntry i f s).lastSale = s.lastSale := rfl
@[simp] theorem modifyEntry_card (i : Nat) (f : ScanEntry → ScanEntry) : (modifyEntry i f s).card = s.card := rfl
@[simp] theorem modifyEntry_drawer (i : Nat) (f : ScanEntry → ScanEntry) : (modifyEntry i f s).drawer = s.drawer := rfl
@[simp] theorem modifyEntry_composer (i : Nat) (f : ScanEntry → ScanEntry) : (modifyEntry i f s).composer = s.composer := rfl
@[simp] theorem modifyEntry_mechanism (i : Nat) (f : ScanEntry → ScanEntry) : (modifyEntry i f s).mechanism = s.mechanism := rfl

@[simp] theorem setSets_pending (x : Vector CacheSet 256) : (setSets x s).pending = s.pending := rfl
@[simp] theorem setSets_pins (x : Vector CacheSet 256) : (setSets x s).pins = s.pins := rfl
@[simp] theorem setSets_now (x : Vector CacheSet 256) : (setSets x s).now = s.now := rfl
@[simp] theorem setSets_link (x : Vector CacheSet 256) : (setSets x s).link = s.link := rfl
@[simp] theorem setSets_lane (x : Vector CacheSet 256) : (setSets x s).lane = s.lane := rfl
@[simp] theorem setSets_bus (x : Vector CacheSet 256) : (setSets x s).bus = s.bus := rfl
@[simp] theorem setSets_attention (x : Vector CacheSet 256) : (setSets x s).attention = s.attention := rfl
@[simp] theorem setSets_scan (x : Vector CacheSet 256) : (setSets x s).scan = s.scan := rfl
@[simp] theorem setSets_cache (x : Vector CacheSet 256) : (setSets x s).cache = { s.cache with sets := x } := rfl
@[simp] theorem setSets_w0 (x : Vector CacheSet 256) : (setSets x s).w0 = s.w0 := rfl
@[simp] theorem setSets_w1 (x : Vector CacheSet 256) : (setSets x s).w1 = s.w1 := rfl
@[simp] theorem setSets_bagging (x : Vector CacheSet 256) : (setSets x s).bagging = s.bagging := rfl
@[simp] theorem setSets_sale (x : Vector CacheSet 256) : (setSets x s).sale = s.sale := rfl
@[simp] theorem setSets_lastSale (x : Vector CacheSet 256) : (setSets x s).lastSale = s.lastSale := rfl
@[simp] theorem setSets_card (x : Vector CacheSet 256) : (setSets x s).card = s.card := rfl
@[simp] theorem setSets_drawer (x : Vector CacheSet 256) : (setSets x s).drawer = s.drawer := rfl
@[simp] theorem setSets_composer (x : Vector CacheSet 256) : (setSets x s).composer = s.composer := rfl
@[simp] theorem setSets_mechanism (x : Vector CacheSet 256) : (setSets x s).mechanism = s.mechanism := rfl

@[simp] theorem setWork_pending (w : List CacheWork) : (setWork w s).pending = s.pending := rfl
@[simp] theorem setWork_pins (w : List CacheWork) : (setWork w s).pins = s.pins := rfl
@[simp] theorem setWork_now (w : List CacheWork) : (setWork w s).now = s.now := rfl
@[simp] theorem setWork_link (w : List CacheWork) : (setWork w s).link = s.link := rfl
@[simp] theorem setWork_lane (w : List CacheWork) : (setWork w s).lane = s.lane := rfl
@[simp] theorem setWork_bus (w : List CacheWork) : (setWork w s).bus = s.bus := rfl
@[simp] theorem setWork_attention (w : List CacheWork) : (setWork w s).attention = s.attention := rfl
@[simp] theorem setWork_scan (w : List CacheWork) : (setWork w s).scan = s.scan := rfl
@[simp] theorem setWork_cache (w : List CacheWork) : (setWork w s).cache = { s.cache with work := w } := rfl
@[simp] theorem setWork_w0 (w : List CacheWork) : (setWork w s).w0 = s.w0 := rfl
@[simp] theorem setWork_w1 (w : List CacheWork) : (setWork w s).w1 = s.w1 := rfl
@[simp] theorem setWork_bagging (w : List CacheWork) : (setWork w s).bagging = s.bagging := rfl
@[simp] theorem setWork_sale (w : List CacheWork) : (setWork w s).sale = s.sale := rfl
@[simp] theorem setWork_lastSale (w : List CacheWork) : (setWork w s).lastSale = s.lastSale := rfl
@[simp] theorem setWork_card (w : List CacheWork) : (setWork w s).card = s.card := rfl
@[simp] theorem setWork_drawer (w : List CacheWork) : (setWork w s).drawer = s.drawer := rfl
@[simp] theorem setWork_composer (w : List CacheWork) : (setWork w s).composer = s.composer := rfl
@[simp] theorem setWork_mechanism (w : List CacheWork) : (setWork w s).mechanism = s.mechanism := rfl

@[simp] theorem touchWay_pending (i : Fin 256) (w : Way) : (touchWay i w s).pending = s.pending := rfl
@[simp] theorem touchWay_pins (i : Fin 256) (w : Way) : (touchWay i w s).pins = s.pins := rfl
@[simp] theorem touchWay_now (i : Fin 256) (w : Way) : (touchWay i w s).now = s.now := rfl
@[simp] theorem touchWay_link (i : Fin 256) (w : Way) : (touchWay i w s).link = s.link := rfl
@[simp] theorem touchWay_lane (i : Fin 256) (w : Way) : (touchWay i w s).lane = s.lane := rfl
@[simp] theorem touchWay_bus (i : Fin 256) (w : Way) : (touchWay i w s).bus = s.bus := rfl
@[simp] theorem touchWay_attention (i : Fin 256) (w : Way) : (touchWay i w s).attention = s.attention := rfl
@[simp] theorem touchWay_scan (i : Fin 256) (w : Way) : (touchWay i w s).scan = s.scan := rfl
@[simp] theorem touchWay_cache (i : Fin 256) (w : Way) : (touchWay i w s).cache = { s.cache with sets := modifySet s.cache.sets i fun c => { c with lru := w.other } } := rfl
@[simp] theorem touchWay_w0 (i : Fin 256) (w : Way) : (touchWay i w s).w0 = s.w0 := rfl
@[simp] theorem touchWay_w1 (i : Fin 256) (w : Way) : (touchWay i w s).w1 = s.w1 := rfl
@[simp] theorem touchWay_bagging (i : Fin 256) (w : Way) : (touchWay i w s).bagging = s.bagging := rfl
@[simp] theorem touchWay_sale (i : Fin 256) (w : Way) : (touchWay i w s).sale = s.sale := rfl
@[simp] theorem touchWay_lastSale (i : Fin 256) (w : Way) : (touchWay i w s).lastSale = s.lastSale := rfl
@[simp] theorem touchWay_card (i : Fin 256) (w : Way) : (touchWay i w s).card = s.card := rfl
@[simp] theorem touchWay_drawer (i : Fin 256) (w : Way) : (touchWay i w s).drawer = s.drawer := rfl
@[simp] theorem touchWay_composer (i : Fin 256) (w : Way) : (touchWay i w s).composer = s.composer := rfl
@[simp] theorem touchWay_mechanism (i : Fin 256) (w : Way) : (touchWay i w s).mechanism = s.mechanism := rfl

@[simp] theorem modifyWay_pending (i : Fin 256) (w : Way) (f : Option CacheEntry → Option CacheEntry) : (modifyWay i w f s).pending = s.pending := rfl
@[simp] theorem modifyWay_pins (i : Fin 256) (w : Way) (f : Option CacheEntry → Option CacheEntry) : (modifyWay i w f s).pins = s.pins := rfl
@[simp] theorem modifyWay_now (i : Fin 256) (w : Way) (f : Option CacheEntry → Option CacheEntry) : (modifyWay i w f s).now = s.now := rfl
@[simp] theorem modifyWay_link (i : Fin 256) (w : Way) (f : Option CacheEntry → Option CacheEntry) : (modifyWay i w f s).link = s.link := rfl
@[simp] theorem modifyWay_lane (i : Fin 256) (w : Way) (f : Option CacheEntry → Option CacheEntry) : (modifyWay i w f s).lane = s.lane := rfl
@[simp] theorem modifyWay_bus (i : Fin 256) (w : Way) (f : Option CacheEntry → Option CacheEntry) : (modifyWay i w f s).bus = s.bus := rfl
@[simp] theorem modifyWay_attention (i : Fin 256) (w : Way) (f : Option CacheEntry → Option CacheEntry) : (modifyWay i w f s).attention = s.attention := rfl
@[simp] theorem modifyWay_scan (i : Fin 256) (w : Way) (f : Option CacheEntry → Option CacheEntry) : (modifyWay i w f s).scan = s.scan := rfl
@[simp] theorem modifyWay_cache (i : Fin 256) (w : Way) (f : Option CacheEntry → Option CacheEntry) : (modifyWay i w f s).cache = { s.cache with sets := modifySet s.cache.sets i fun c => c.setWay w (f (c.way w)) } := rfl
@[simp] theorem modifyWay_w0 (i : Fin 256) (w : Way) (f : Option CacheEntry → Option CacheEntry) : (modifyWay i w f s).w0 = s.w0 := rfl
@[simp] theorem modifyWay_w1 (i : Fin 256) (w : Way) (f : Option CacheEntry → Option CacheEntry) : (modifyWay i w f s).w1 = s.w1 := rfl
@[simp] theorem modifyWay_bagging (i : Fin 256) (w : Way) (f : Option CacheEntry → Option CacheEntry) : (modifyWay i w f s).bagging = s.bagging := rfl
@[simp] theorem modifyWay_sale (i : Fin 256) (w : Way) (f : Option CacheEntry → Option CacheEntry) : (modifyWay i w f s).sale = s.sale := rfl
@[simp] theorem modifyWay_lastSale (i : Fin 256) (w : Way) (f : Option CacheEntry → Option CacheEntry) : (modifyWay i w f s).lastSale = s.lastSale := rfl
@[simp] theorem modifyWay_card (i : Fin 256) (w : Way) (f : Option CacheEntry → Option CacheEntry) : (modifyWay i w f s).card = s.card := rfl
@[simp] theorem modifyWay_drawer (i : Fin 256) (w : Way) (f : Option CacheEntry → Option CacheEntry) : (modifyWay i w f s).drawer = s.drawer := rfl
@[simp] theorem modifyWay_composer (i : Fin 256) (w : Way) (f : Option CacheEntry → Option CacheEntry) : (modifyWay i w f s).composer = s.composer := rfl
@[simp] theorem modifyWay_mechanism (i : Fin 256) (w : Way) (f : Option CacheEntry → Option CacheEntry) : (modifyWay i w f s).mechanism = s.mechanism := rfl

@[simp] theorem setSession_pending (x : Session) : (setSession x s).pending = s.pending := rfl
@[simp] theorem setSession_pins (x : Session) : (setSession x s).pins = s.pins := rfl
@[simp] theorem setSession_now (x : Session) : (setSession x s).now = s.now := rfl
@[simp] theorem setSession_link (x : Session) : (setSession x s).link = s.link := rfl
@[simp] theorem setSession_lane (x : Session) : (setSession x s).lane = s.lane := rfl
@[simp] theorem setSession_bus (x : Session) : (setSession x s).bus = s.bus := rfl
@[simp] theorem setSession_attention (x : Session) : (setSession x s).attention = s.attention := rfl
@[simp] theorem setSession_scan (x : Session) : (setSession x s).scan = s.scan := rfl
@[simp] theorem setSession_cache (x : Session) : (setSession x s).cache = s.cache := rfl
@[simp] theorem setSession_w0 (x : Session) : (setSession x s).w0 = s.w0 := rfl
@[simp] theorem setSession_w1 (x : Session) : (setSession x s).w1 = s.w1 := rfl
@[simp] theorem setSession_bagging (x : Session) : (setSession x s).bagging = s.bagging := rfl
@[simp] theorem setSession_sale (x : Session) : (setSession x s).sale = s.sale := rfl
@[simp] theorem setSession_lastSale (x : Session) : (setSession x s).lastSale = s.lastSale := rfl
@[simp] theorem setSession_card (x : Session) : (setSession x s).card = { s.card with session := x } := rfl
@[simp] theorem setSession_drawer (x : Session) : (setSession x s).drawer = s.drawer := rfl
@[simp] theorem setSession_composer (x : Session) : (setSession x s).composer = s.composer := rfl
@[simp] theorem setSession_mechanism (x : Session) : (setSession x s).mechanism = s.mechanism := rfl

@[simp] theorem setInReader_pending (v : Bool) : (setInReader v s).pending = s.pending := rfl
@[simp] theorem setInReader_pins (v : Bool) : (setInReader v s).pins = s.pins := rfl
@[simp] theorem setInReader_now (v : Bool) : (setInReader v s).now = s.now := rfl
@[simp] theorem setInReader_link (v : Bool) : (setInReader v s).link = s.link := rfl
@[simp] theorem setInReader_lane (v : Bool) : (setInReader v s).lane = s.lane := rfl
@[simp] theorem setInReader_bus (v : Bool) : (setInReader v s).bus = s.bus := rfl
@[simp] theorem setInReader_attention (v : Bool) : (setInReader v s).attention = s.attention := rfl
@[simp] theorem setInReader_scan (v : Bool) : (setInReader v s).scan = s.scan := rfl
@[simp] theorem setInReader_cache (v : Bool) : (setInReader v s).cache = s.cache := rfl
@[simp] theorem setInReader_w0 (v : Bool) : (setInReader v s).w0 = s.w0 := rfl
@[simp] theorem setInReader_w1 (v : Bool) : (setInReader v s).w1 = s.w1 := rfl
@[simp] theorem setInReader_bagging (v : Bool) : (setInReader v s).bagging = s.bagging := rfl
@[simp] theorem setInReader_sale (v : Bool) : (setInReader v s).sale = s.sale := rfl
@[simp] theorem setInReader_lastSale (v : Bool) : (setInReader v s).lastSale = s.lastSale := rfl
@[simp] theorem setInReader_card (v : Bool) : (setInReader v s).card = { s.card with session := { s.card.session with cardInReader := v } } := rfl
@[simp] theorem setInReader_drawer (v : Bool) : (setInReader v s).drawer = s.drawer := rfl
@[simp] theorem setInReader_composer (v : Bool) : (setInReader v s).composer = s.composer := rfl
@[simp] theorem setInReader_mechanism (v : Bool) : (setInReader v s).mechanism = s.mechanism := rfl

@[simp] theorem setDrawer_pending (d : Drawer) : (setDrawer d s).pending = s.pending := rfl
@[simp] theorem setDrawer_pins (d : Drawer) : (setDrawer d s).pins = s.pins := rfl
@[simp] theorem setDrawer_now (d : Drawer) : (setDrawer d s).now = s.now := rfl
@[simp] theorem setDrawer_link (d : Drawer) : (setDrawer d s).link = s.link := rfl
@[simp] theorem setDrawer_lane (d : Drawer) : (setDrawer d s).lane = s.lane := rfl
@[simp] theorem setDrawer_bus (d : Drawer) : (setDrawer d s).bus = s.bus := rfl
@[simp] theorem setDrawer_attention (d : Drawer) : (setDrawer d s).attention = s.attention := rfl
@[simp] theorem setDrawer_scan (d : Drawer) : (setDrawer d s).scan = s.scan := rfl
@[simp] theorem setDrawer_cache (d : Drawer) : (setDrawer d s).cache = s.cache := rfl
@[simp] theorem setDrawer_w0 (d : Drawer) : (setDrawer d s).w0 = s.w0 := rfl
@[simp] theorem setDrawer_w1 (d : Drawer) : (setDrawer d s).w1 = s.w1 := rfl
@[simp] theorem setDrawer_bagging (d : Drawer) : (setDrawer d s).bagging = s.bagging := rfl
@[simp] theorem setDrawer_sale (d : Drawer) : (setDrawer d s).sale = s.sale := rfl
@[simp] theorem setDrawer_lastSale (d : Drawer) : (setDrawer d s).lastSale = s.lastSale := rfl
@[simp] theorem setDrawer_card (d : Drawer) : (setDrawer d s).card = s.card := rfl
@[simp] theorem setDrawer_drawer (d : Drawer) : (setDrawer d s).drawer = d := rfl
@[simp] theorem setDrawer_composer (d : Drawer) : (setDrawer d s).composer = s.composer := rfl
@[simp] theorem setDrawer_mechanism (d : Drawer) : (setDrawer d s).mechanism = s.mechanism := rfl

@[simp] theorem setSwitch_pending (v : Bool) : (setSwitch v s).pending = s.pending := rfl
@[simp] theorem setSwitch_pins (v : Bool) : (setSwitch v s).pins = { s.pins with drawerOpen := v } := rfl
@[simp] theorem setSwitch_now (v : Bool) : (setSwitch v s).now = s.now := rfl
@[simp] theorem setSwitch_link (v : Bool) : (setSwitch v s).link = s.link := rfl
@[simp] theorem setSwitch_lane (v : Bool) : (setSwitch v s).lane = s.lane := rfl
@[simp] theorem setSwitch_bus (v : Bool) : (setSwitch v s).bus = s.bus := rfl
@[simp] theorem setSwitch_attention (v : Bool) : (setSwitch v s).attention = s.attention := rfl
@[simp] theorem setSwitch_scan (v : Bool) : (setSwitch v s).scan = s.scan := rfl
@[simp] theorem setSwitch_cache (v : Bool) : (setSwitch v s).cache = s.cache := rfl
@[simp] theorem setSwitch_w0 (v : Bool) : (setSwitch v s).w0 = s.w0 := rfl
@[simp] theorem setSwitch_w1 (v : Bool) : (setSwitch v s).w1 = s.w1 := rfl
@[simp] theorem setSwitch_bagging (v : Bool) : (setSwitch v s).bagging = s.bagging := rfl
@[simp] theorem setSwitch_sale (v : Bool) : (setSwitch v s).sale = s.sale := rfl
@[simp] theorem setSwitch_lastSale (v : Bool) : (setSwitch v s).lastSale = s.lastSale := rfl
@[simp] theorem setSwitch_card (v : Bool) : (setSwitch v s).card = s.card := rfl
@[simp] theorem setSwitch_drawer (v : Bool) : (setSwitch v s).drawer = { s.drawer with switchOpen := v } := rfl
@[simp] theorem setSwitch_composer (v : Bool) : (setSwitch v s).composer = s.composer := rfl
@[simp] theorem setSwitch_mechanism (v : Bool) : (setSwitch v s).mechanism = s.mechanism := rfl

@[simp] theorem setComposer_pending (c : Composer) : (setComposer c s).pending = s.pending := rfl
@[simp] theorem setComposer_pins (c : Composer) : (setComposer c s).pins = s.pins := rfl
@[simp] theorem setComposer_now (c : Composer) : (setComposer c s).now = s.now := rfl
@[simp] theorem setComposer_link (c : Composer) : (setComposer c s).link = s.link := rfl
@[simp] theorem setComposer_lane (c : Composer) : (setComposer c s).lane = s.lane := rfl
@[simp] theorem setComposer_bus (c : Composer) : (setComposer c s).bus = s.bus := rfl
@[simp] theorem setComposer_attention (c : Composer) : (setComposer c s).attention = s.attention := rfl
@[simp] theorem setComposer_scan (c : Composer) : (setComposer c s).scan = s.scan := rfl
@[simp] theorem setComposer_cache (c : Composer) : (setComposer c s).cache = s.cache := rfl
@[simp] theorem setComposer_w0 (c : Composer) : (setComposer c s).w0 = s.w0 := rfl
@[simp] theorem setComposer_w1 (c : Composer) : (setComposer c s).w1 = s.w1 := rfl
@[simp] theorem setComposer_bagging (c : Composer) : (setComposer c s).bagging = s.bagging := rfl
@[simp] theorem setComposer_sale (c : Composer) : (setComposer c s).sale = s.sale := rfl
@[simp] theorem setComposer_lastSale (c : Composer) : (setComposer c s).lastSale = s.lastSale := rfl
@[simp] theorem setComposer_card (c : Composer) : (setComposer c s).card = s.card := rfl
@[simp] theorem setComposer_drawer (c : Composer) : (setComposer c s).drawer = s.drawer := rfl
@[simp] theorem setComposer_composer (c : Composer) : (setComposer c s).composer = c := rfl
@[simp] theorem setComposer_mechanism (c : Composer) : (setComposer c s).mechanism = s.mechanism := rfl

@[simp] theorem setJobs_pending (js : List Job) : (setJobs js s).pending = s.pending := rfl
@[simp] theorem setJobs_pins (js : List Job) : (setJobs js s).pins = s.pins := rfl
@[simp] theorem setJobs_now (js : List Job) : (setJobs js s).now = s.now := rfl
@[simp] theorem setJobs_link (js : List Job) : (setJobs js s).link = s.link := rfl
@[simp] theorem setJobs_lane (js : List Job) : (setJobs js s).lane = s.lane := rfl
@[simp] theorem setJobs_bus (js : List Job) : (setJobs js s).bus = s.bus := rfl
@[simp] theorem setJobs_attention (js : List Job) : (setJobs js s).attention = s.attention := rfl
@[simp] theorem setJobs_scan (js : List Job) : (setJobs js s).scan = s.scan := rfl
@[simp] theorem setJobs_cache (js : List Job) : (setJobs js s).cache = s.cache := rfl
@[simp] theorem setJobs_w0 (js : List Job) : (setJobs js s).w0 = s.w0 := rfl
@[simp] theorem setJobs_w1 (js : List Job) : (setJobs js s).w1 = s.w1 := rfl
@[simp] theorem setJobs_bagging (js : List Job) : (setJobs js s).bagging = s.bagging := rfl
@[simp] theorem setJobs_sale (js : List Job) : (setJobs js s).sale = s.sale := rfl
@[simp] theorem setJobs_lastSale (js : List Job) : (setJobs js s).lastSale = s.lastSale := rfl
@[simp] theorem setJobs_card (js : List Job) : (setJobs js s).card = s.card := rfl
@[simp] theorem setJobs_drawer (js : List Job) : (setJobs js s).drawer = s.drawer := rfl
@[simp] theorem setJobs_composer (js : List Job) : (setJobs js s).composer = { s.composer with jobs := js } := rfl
@[simp] theorem setJobs_mechanism (js : List Job) : (setJobs js s).mechanism = s.mechanism := rfl

@[simp] theorem modifyJob_pending (n : Nat) (f : Job → Job) : (modifyJob n f s).pending = s.pending := rfl
@[simp] theorem modifyJob_pins (n : Nat) (f : Job → Job) : (modifyJob n f s).pins = s.pins := rfl
@[simp] theorem modifyJob_now (n : Nat) (f : Job → Job) : (modifyJob n f s).now = s.now := rfl
@[simp] theorem modifyJob_link (n : Nat) (f : Job → Job) : (modifyJob n f s).link = s.link := rfl
@[simp] theorem modifyJob_lane (n : Nat) (f : Job → Job) : (modifyJob n f s).lane = s.lane := rfl
@[simp] theorem modifyJob_bus (n : Nat) (f : Job → Job) : (modifyJob n f s).bus = s.bus := rfl
@[simp] theorem modifyJob_attention (n : Nat) (f : Job → Job) : (modifyJob n f s).attention = s.attention := rfl
@[simp] theorem modifyJob_scan (n : Nat) (f : Job → Job) : (modifyJob n f s).scan = s.scan := rfl
@[simp] theorem modifyJob_cache (n : Nat) (f : Job → Job) : (modifyJob n f s).cache = s.cache := rfl
@[simp] theorem modifyJob_w0 (n : Nat) (f : Job → Job) : (modifyJob n f s).w0 = s.w0 := rfl
@[simp] theorem modifyJob_w1 (n : Nat) (f : Job → Job) : (modifyJob n f s).w1 = s.w1 := rfl
@[simp] theorem modifyJob_bagging (n : Nat) (f : Job → Job) : (modifyJob n f s).bagging = s.bagging := rfl
@[simp] theorem modifyJob_sale (n : Nat) (f : Job → Job) : (modifyJob n f s).sale = s.sale := rfl
@[simp] theorem modifyJob_lastSale (n : Nat) (f : Job → Job) : (modifyJob n f s).lastSale = s.lastSale := rfl
@[simp] theorem modifyJob_card (n : Nat) (f : Job → Job) : (modifyJob n f s).card = s.card := rfl
@[simp] theorem modifyJob_drawer (n : Nat) (f : Job → Job) : (modifyJob n f s).drawer = s.drawer := rfl
@[simp] theorem modifyJob_composer (n : Nat) (f : Job → Job) : (modifyJob n f s).composer = { s.composer with jobs := s.composer.jobs.map fun j => if j.number == n then f j else j } := rfl
@[simp] theorem modifyJob_mechanism (n : Nat) (f : Job → Job) : (modifyJob n f s).mechanism = s.mechanism := rfl

@[simp] theorem setTodo_pending (es : List Element) : (setTodo es s).pending = s.pending := rfl
@[simp] theorem setTodo_pins (es : List Element) : (setTodo es s).pins = s.pins := rfl
@[simp] theorem setTodo_now (es : List Element) : (setTodo es s).now = s.now := rfl
@[simp] theorem setTodo_link (es : List Element) : (setTodo es s).link = s.link := rfl
@[simp] theorem setTodo_lane (es : List Element) : (setTodo es s).lane = s.lane := rfl
@[simp] theorem setTodo_bus (es : List Element) : (setTodo es s).bus = s.bus := rfl
@[simp] theorem setTodo_attention (es : List Element) : (setTodo es s).attention = s.attention := rfl
@[simp] theorem setTodo_scan (es : List Element) : (setTodo es s).scan = s.scan := rfl
@[simp] theorem setTodo_cache (es : List Element) : (setTodo es s).cache = s.cache := rfl
@[simp] theorem setTodo_w0 (es : List Element) : (setTodo es s).w0 = s.w0 := rfl
@[simp] theorem setTodo_w1 (es : List Element) : (setTodo es s).w1 = s.w1 := rfl
@[simp] theorem setTodo_bagging (es : List Element) : (setTodo es s).bagging = s.bagging := rfl
@[simp] theorem setTodo_sale (es : List Element) : (setTodo es s).sale = s.sale := rfl
@[simp] theorem setTodo_lastSale (es : List Element) : (setTodo es s).lastSale = s.lastSale := rfl
@[simp] theorem setTodo_card (es : List Element) : (setTodo es s).card = s.card := rfl
@[simp] theorem setTodo_drawer (es : List Element) : (setTodo es s).drawer = s.drawer := rfl
@[simp] theorem setTodo_composer (es : List Element) : (setTodo es s).composer = { s.composer with todo := es } := rfl
@[simp] theorem setTodo_mechanism (es : List Element) : (setTodo es s).mechanism = s.mechanism := rfl

@[simp] theorem setMechanism_pending (m : Mechanism) : (setMechanism m s).pending = s.pending := rfl
@[simp] theorem setMechanism_pins (m : Mechanism) : (setMechanism m s).pins = s.pins := rfl
@[simp] theorem setMechanism_now (m : Mechanism) : (setMechanism m s).now = s.now := rfl
@[simp] theorem setMechanism_link (m : Mechanism) : (setMechanism m s).link = s.link := rfl
@[simp] theorem setMechanism_lane (m : Mechanism) : (setMechanism m s).lane = s.lane := rfl
@[simp] theorem setMechanism_bus (m : Mechanism) : (setMechanism m s).bus = s.bus := rfl
@[simp] theorem setMechanism_attention (m : Mechanism) : (setMechanism m s).attention = s.attention := rfl
@[simp] theorem setMechanism_scan (m : Mechanism) : (setMechanism m s).scan = s.scan := rfl
@[simp] theorem setMechanism_cache (m : Mechanism) : (setMechanism m s).cache = s.cache := rfl
@[simp] theorem setMechanism_w0 (m : Mechanism) : (setMechanism m s).w0 = s.w0 := rfl
@[simp] theorem setMechanism_w1 (m : Mechanism) : (setMechanism m s).w1 = s.w1 := rfl
@[simp] theorem setMechanism_bagging (m : Mechanism) : (setMechanism m s).bagging = s.bagging := rfl
@[simp] theorem setMechanism_sale (m : Mechanism) : (setMechanism m s).sale = s.sale := rfl
@[simp] theorem setMechanism_lastSale (m : Mechanism) : (setMechanism m s).lastSale = s.lastSale := rfl
@[simp] theorem setMechanism_card (m : Mechanism) : (setMechanism m s).card = s.card := rfl
@[simp] theorem setMechanism_drawer (m : Mechanism) : (setMechanism m s).drawer = s.drawer := rfl
@[simp] theorem setMechanism_composer (m : Mechanism) : (setMechanism m s).composer = s.composer := rfl
@[simp] theorem setMechanism_mechanism (m : Mechanism) : (setMechanism m s).mechanism = m := rfl

@[simp] theorem appendRing_pending (es : List RingElement) : (appendRing es s).pending = s.pending := rfl
@[simp] theorem appendRing_pins (es : List RingElement) : (appendRing es s).pins = s.pins := rfl
@[simp] theorem appendRing_now (es : List RingElement) : (appendRing es s).now = s.now := rfl
@[simp] theorem appendRing_link (es : List RingElement) : (appendRing es s).link = s.link := rfl
@[simp] theorem appendRing_lane (es : List RingElement) : (appendRing es s).lane = s.lane := rfl
@[simp] theorem appendRing_bus (es : List RingElement) : (appendRing es s).bus = s.bus := rfl
@[simp] theorem appendRing_attention (es : List RingElement) : (appendRing es s).attention = s.attention := rfl
@[simp] theorem appendRing_scan (es : List RingElement) : (appendRing es s).scan = s.scan := rfl
@[simp] theorem appendRing_cache (es : List RingElement) : (appendRing es s).cache = s.cache := rfl
@[simp] theorem appendRing_w0 (es : List RingElement) : (appendRing es s).w0 = s.w0 := rfl
@[simp] theorem appendRing_w1 (es : List RingElement) : (appendRing es s).w1 = s.w1 := rfl
@[simp] theorem appendRing_bagging (es : List RingElement) : (appendRing es s).bagging = s.bagging := rfl
@[simp] theorem appendRing_sale (es : List RingElement) : (appendRing es s).sale = s.sale := rfl
@[simp] theorem appendRing_lastSale (es : List RingElement) : (appendRing es s).lastSale = s.lastSale := rfl
@[simp] theorem appendRing_card (es : List RingElement) : (appendRing es s).card = s.card := rfl
@[simp] theorem appendRing_drawer (es : List RingElement) : (appendRing es s).drawer = s.drawer := rfl
@[simp] theorem appendRing_composer (es : List RingElement) : (appendRing es s).composer = s.composer := rfl
@[simp] theorem appendRing_mechanism (es : List RingElement) : (appendRing es s).mechanism = { s.mechanism with ring := s.mechanism.ring ++ es } := rfl

@[simp] theorem setCutterHome_pending (v : Bool) : (setCutterHome v s).pending = s.pending := rfl
@[simp] theorem setCutterHome_pins (v : Bool) : (setCutterHome v s).pins = { s.pins with cutterHome := v } := rfl
@[simp] theorem setCutterHome_now (v : Bool) : (setCutterHome v s).now = s.now := rfl
@[simp] theorem setCutterHome_link (v : Bool) : (setCutterHome v s).link = s.link := rfl
@[simp] theorem setCutterHome_lane (v : Bool) : (setCutterHome v s).lane = s.lane := rfl
@[simp] theorem setCutterHome_bus (v : Bool) : (setCutterHome v s).bus = s.bus := rfl
@[simp] theorem setCutterHome_attention (v : Bool) : (setCutterHome v s).attention = s.attention := rfl
@[simp] theorem setCutterHome_scan (v : Bool) : (setCutterHome v s).scan = s.scan := rfl
@[simp] theorem setCutterHome_cache (v : Bool) : (setCutterHome v s).cache = s.cache := rfl
@[simp] theorem setCutterHome_w0 (v : Bool) : (setCutterHome v s).w0 = s.w0 := rfl
@[simp] theorem setCutterHome_w1 (v : Bool) : (setCutterHome v s).w1 = s.w1 := rfl
@[simp] theorem setCutterHome_bagging (v : Bool) : (setCutterHome v s).bagging = s.bagging := rfl
@[simp] theorem setCutterHome_sale (v : Bool) : (setCutterHome v s).sale = s.sale := rfl
@[simp] theorem setCutterHome_lastSale (v : Bool) : (setCutterHome v s).lastSale = s.lastSale := rfl
@[simp] theorem setCutterHome_card (v : Bool) : (setCutterHome v s).card = s.card := rfl
@[simp] theorem setCutterHome_drawer (v : Bool) : (setCutterHome v s).drawer = s.drawer := rfl
@[simp] theorem setCutterHome_composer (v : Bool) : (setCutterHome v s).composer = s.composer := rfl
@[simp] theorem setCutterHome_mechanism (v : Bool) : (setCutterHome v s).mechanism = { s.mechanism with cutterHome := v } := rfl

@[simp] theorem modifyChannel_pending (ch : ChannelId) (f : Channel → Channel) : (s.modifyChannel ch f).pending = s.pending := rfl
@[simp] theorem modifyChannel_pins (ch : ChannelId) (f : Channel → Channel) : (s.modifyChannel ch f).pins = s.pins := rfl
@[simp] theorem modifyChannel_now (ch : ChannelId) (f : Channel → Channel) : (s.modifyChannel ch f).now = s.now := rfl
@[simp] theorem modifyChannel_link (ch : ChannelId) (f : Channel → Channel) : (s.modifyChannel ch f).link = s.link := rfl
@[simp] theorem modifyChannel_lane (ch : ChannelId) (f : Channel → Channel) : (s.modifyChannel ch f).lane = s.lane := rfl
@[simp] theorem modifyChannel_bus (ch : ChannelId) (f : Channel → Channel) : (s.modifyChannel ch f).bus = { s.bus with channels := s.bus.channels.set ch (f s.bus.channels[ch]) } := rfl
@[simp] theorem modifyChannel_attention (ch : ChannelId) (f : Channel → Channel) : (s.modifyChannel ch f).attention = s.attention := rfl
@[simp] theorem modifyChannel_scan (ch : ChannelId) (f : Channel → Channel) : (s.modifyChannel ch f).scan = s.scan := rfl
@[simp] theorem modifyChannel_cache (ch : ChannelId) (f : Channel → Channel) : (s.modifyChannel ch f).cache = s.cache := rfl
@[simp] theorem modifyChannel_w0 (ch : ChannelId) (f : Channel → Channel) : (s.modifyChannel ch f).w0 = s.w0 := rfl
@[simp] theorem modifyChannel_w1 (ch : ChannelId) (f : Channel → Channel) : (s.modifyChannel ch f).w1 = s.w1 := rfl
@[simp] theorem modifyChannel_bagging (ch : ChannelId) (f : Channel → Channel) : (s.modifyChannel ch f).bagging = s.bagging := rfl
@[simp] theorem modifyChannel_sale (ch : ChannelId) (f : Channel → Channel) : (s.modifyChannel ch f).sale = s.sale := rfl
@[simp] theorem modifyChannel_lastSale (ch : ChannelId) (f : Channel → Channel) : (s.modifyChannel ch f).lastSale = s.lastSale := rfl
@[simp] theorem modifyChannel_card (ch : ChannelId) (f : Channel → Channel) : (s.modifyChannel ch f).card = s.card := rfl
@[simp] theorem modifyChannel_drawer (ch : ChannelId) (f : Channel → Channel) : (s.modifyChannel ch f).drawer = s.drawer := rfl
@[simp] theorem modifyChannel_composer (ch : ChannelId) (f : Channel → Channel) : (s.modifyChannel ch f).composer = s.composer := rfl
@[simp] theorem modifyChannel_mechanism (ch : ChannelId) (f : Channel → Channel) : (s.modifyChannel ch f).mechanism = s.mechanism := rfl

@[simp] theorem setStatus_pending (ch : ChannelId) (v : BitVec 4) : (setStatus ch v s).pending = s.pending := rfl
@[simp] theorem setStatus_pins (ch : ChannelId) (v : BitVec 4) : (setStatus ch v s).pins = s.pins := rfl
@[simp] theorem setStatus_now (ch : ChannelId) (v : BitVec 4) : (setStatus ch v s).now = s.now := rfl
@[simp] theorem setStatus_link (ch : ChannelId) (v : BitVec 4) : (setStatus ch v s).link = s.link := rfl
@[simp] theorem setStatus_lane (ch : ChannelId) (v : BitVec 4) : (setStatus ch v s).lane = s.lane := rfl
@[simp] theorem setStatus_attention (ch : ChannelId) (v : BitVec 4) : (setStatus ch v s).attention = s.attention := rfl
@[simp] theorem setStatus_scan (ch : ChannelId) (v : BitVec 4) : (setStatus ch v s).scan = s.scan := rfl
@[simp] theorem setStatus_cache (ch : ChannelId) (v : BitVec 4) : (setStatus ch v s).cache = s.cache := rfl
@[simp] theorem setStatus_w0 (ch : ChannelId) (v : BitVec 4) : (setStatus ch v s).w0 = s.w0 := rfl
@[simp] theorem setStatus_w1 (ch : ChannelId) (v : BitVec 4) : (setStatus ch v s).w1 = s.w1 := rfl
@[simp] theorem setStatus_bagging (ch : ChannelId) (v : BitVec 4) : (setStatus ch v s).bagging = s.bagging := rfl
@[simp] theorem setStatus_sale (ch : ChannelId) (v : BitVec 4) : (setStatus ch v s).sale = s.sale := rfl
@[simp] theorem setStatus_lastSale (ch : ChannelId) (v : BitVec 4) : (setStatus ch v s).lastSale = s.lastSale := rfl
@[simp] theorem setStatus_card (ch : ChannelId) (v : BitVec 4) : (setStatus ch v s).card = s.card := rfl
@[simp] theorem setStatus_drawer (ch : ChannelId) (v : BitVec 4) : (setStatus ch v s).drawer = s.drawer := rfl
@[simp] theorem setStatus_composer (ch : ChannelId) (v : BitVec 4) : (setStatus ch v s).composer = s.composer := rfl
@[simp] theorem setStatus_mechanism (ch : ChannelId) (v : BitVec 4) : (setStatus ch v s).mechanism = s.mechanism := rfl

@[simp] theorem joinTransmit_pending (ch : ChannelId) (m : TxMessage) : (joinTransmit ch m s).pending = s.pending := rfl
@[simp] theorem joinTransmit_pins (ch : ChannelId) (m : TxMessage) : (joinTransmit ch m s).pins = s.pins := rfl
@[simp] theorem joinTransmit_now (ch : ChannelId) (m : TxMessage) : (joinTransmit ch m s).now = s.now := rfl
@[simp] theorem joinTransmit_link (ch : ChannelId) (m : TxMessage) : (joinTransmit ch m s).link = s.link := rfl
@[simp] theorem joinTransmit_lane (ch : ChannelId) (m : TxMessage) : (joinTransmit ch m s).lane = s.lane := rfl
@[simp] theorem joinTransmit_attention (ch : ChannelId) (m : TxMessage) : (joinTransmit ch m s).attention = s.attention := rfl
@[simp] theorem joinTransmit_scan (ch : ChannelId) (m : TxMessage) : (joinTransmit ch m s).scan = s.scan := rfl
@[simp] theorem joinTransmit_cache (ch : ChannelId) (m : TxMessage) : (joinTransmit ch m s).cache = s.cache := rfl
@[simp] theorem joinTransmit_w0 (ch : ChannelId) (m : TxMessage) : (joinTransmit ch m s).w0 = s.w0 := rfl
@[simp] theorem joinTransmit_w1 (ch : ChannelId) (m : TxMessage) : (joinTransmit ch m s).w1 = s.w1 := rfl
@[simp] theorem joinTransmit_bagging (ch : ChannelId) (m : TxMessage) : (joinTransmit ch m s).bagging = s.bagging := rfl
@[simp] theorem joinTransmit_sale (ch : ChannelId) (m : TxMessage) : (joinTransmit ch m s).sale = s.sale := rfl
@[simp] theorem joinTransmit_lastSale (ch : ChannelId) (m : TxMessage) : (joinTransmit ch m s).lastSale = s.lastSale := rfl
@[simp] theorem joinTransmit_card (ch : ChannelId) (m : TxMessage) : (joinTransmit ch m s).card = s.card := rfl
@[simp] theorem joinTransmit_drawer (ch : ChannelId) (m : TxMessage) : (joinTransmit ch m s).drawer = s.drawer := rfl
@[simp] theorem joinTransmit_composer (ch : ChannelId) (m : TxMessage) : (joinTransmit ch m s).composer = s.composer := rfl
@[simp] theorem joinTransmit_mechanism (ch : ChannelId) (m : TxMessage) : (joinTransmit ch m s).mechanism = s.mechanism := rfl

@[simp] theorem tick_pending : (tick s).pending = s.pending := rfl
@[simp] theorem tick_pins : (tick s).pins = s.pins := rfl
@[simp] theorem tick_now : (tick s).now = s.now + 1 := rfl
@[simp] theorem tick_link : (tick s).link = s.link := rfl
@[simp] theorem tick_lane : (tick s).lane = s.lane := rfl
@[simp] theorem tick_bus : (tick s).bus = s.bus := rfl
@[simp] theorem tick_attention : (tick s).attention = s.attention := rfl
@[simp] theorem tick_scan : (tick s).scan = s.scan := rfl
@[simp] theorem tick_cache : (tick s).cache = s.cache := rfl
@[simp] theorem tick_w0 : (tick s).w0 = s.w0 := rfl
@[simp] theorem tick_w1 : (tick s).w1 = s.w1 := rfl
@[simp] theorem tick_bagging : (tick s).bagging = s.bagging := rfl
@[simp] theorem tick_sale : (tick s).sale = s.sale := rfl
@[simp] theorem tick_lastSale : (tick s).lastSale = s.lastSale := rfl
@[simp] theorem tick_card : (tick s).card = s.card := rfl
@[simp] theorem tick_drawer : (tick s).drawer = s.drawer := rfl
@[simp] theorem tick_composer : (tick s).composer = s.composer := rfl
@[simp] theorem tick_mechanism : (tick s).mechanism = s.mechanism := rfl

@[simp] theorem setScale_pending (i : ScaleId) (c : Scale) : (s.setScale i c).pending = s.pending := by cases i <;> rfl
@[simp] theorem setScale_pins (i : ScaleId) (c : Scale) : (s.setScale i c).pins = s.pins := by cases i <;> rfl
@[simp] theorem setScale_now (i : ScaleId) (c : Scale) : (s.setScale i c).now = s.now := by cases i <;> rfl
@[simp] theorem setScale_link (i : ScaleId) (c : Scale) : (s.setScale i c).link = s.link := by cases i <;> rfl
@[simp] theorem setScale_lane (i : ScaleId) (c : Scale) : (s.setScale i c).lane = s.lane := by cases i <;> rfl
@[simp] theorem setScale_bus (i : ScaleId) (c : Scale) : (s.setScale i c).bus = s.bus := by cases i <;> rfl
@[simp] theorem setScale_attention (i : ScaleId) (c : Scale) : (s.setScale i c).attention = s.attention := by cases i <;> rfl
@[simp] theorem setScale_scan (i : ScaleId) (c : Scale) : (s.setScale i c).scan = s.scan := by cases i <;> rfl
@[simp] theorem setScale_cache (i : ScaleId) (c : Scale) : (s.setScale i c).cache = s.cache := by cases i <;> rfl
@[simp] theorem setScale_bagging (i : ScaleId) (c : Scale) : (s.setScale i c).bagging = s.bagging := by cases i <;> rfl
@[simp] theorem setScale_sale (i : ScaleId) (c : Scale) : (s.setScale i c).sale = s.sale := by cases i <;> rfl
@[simp] theorem setScale_lastSale (i : ScaleId) (c : Scale) : (s.setScale i c).lastSale = s.lastSale := by cases i <;> rfl
@[simp] theorem setScale_card (i : ScaleId) (c : Scale) : (s.setScale i c).card = s.card := by cases i <;> rfl
@[simp] theorem setScale_drawer (i : ScaleId) (c : Scale) : (s.setScale i c).drawer = s.drawer := by cases i <;> rfl
@[simp] theorem setScale_composer (i : ScaleId) (c : Scale) : (s.setScale i c).composer = s.composer := by cases i <;> rfl
@[simp] theorem setScale_mechanism (i : ScaleId) (c : Scale) : (s.setScale i c).mechanism = s.mechanism := by cases i <;> rfl
@[simp] theorem setScale_scale (i : ScaleId) (c : Scale) : (s.setScale i c).scale i = c := by cases i <;> rfl

end Sys2Proof.Machine
end

