-- ==== Sys2Proof/Laws/Ops.lean ====
section
/-! SUPPORT. What each shared operation of Machine/Ops.lean can change, said once: a relation for each kind of
footprint, one law per operation, and the fields each leaves. -/

namespace Sys2Proof.Machine

/-! ## Footprints -/

/-- `t` differs from `s` in the outbound side of the link alone. -/
def OnlyLink (s t : State) : Prop :=
  t = { s with link := t.link }

/-- `t` differs from `s` in the bus alone. -/
def OnlyBus (s t : State) : Prop :=
  t = { s with bus := t.bus }

/-- `t` differs from `s` in the bus, the rest text and the display message held alone. -/
def OnlyDisplay (s t : State) : Prop :=
  t = { s with bus := t.bus, attention := { s.attention with rest := t.attention.rest, displayWaiting := t.attention.displayWaiting } }

/-- `t` differs from `s` in the link, the bus and the prompt state alone. -/
def OnlyPrompt (s t : State) : Prop :=
  t = { s with link := t.link, bus := t.bus, attention := { t.attention with causes := s.attention.causes, primary := s.attention.primary, age := s.attention.age } }

/-- `t` differs from `s` in the link, the bus, the cause list with its contexts, the rest text and the display message held alone. -/
def OnlyCause (s t : State) : Prop :=
  t = { s with link := t.link, bus := t.bus, attention := { s.attention with causes := t.attention.causes, primary := t.attention.primary, age := t.attention.age, rest := t.attention.rest, displayWaiting := t.attention.displayWaiting } }

/-- `t` differs from `s` in the link, the bus and the attention unit alone. -/
def OnlyAttention (s t : State) : Prop :=
  t = { s with link := t.link, bus := t.bus, attention := t.attention }

/-- `t` differs from `s` in the bus, and the reader's light, prompt and messages held alone. -/
def OnlyReader (s t : State) : Prop :=
  t = { s with bus := t.bus, card := { s.card with light := t.card.light, prompt := t.card.prompt, waiting := t.card.waiting } }

/-- `t` differs from `s` in the bus, and the scanner's gate value and tone alone. -/
def OnlyGate (s t : State) : Prop :=
  t = { s with bus := t.bus, scan := { s.scan with gate := t.scan.gate, tone := t.scan.tone } }

/-- `t` differs from `s` in the bus, and what the scanner, the display and the reader are shown alone. -/
def OnlyShown (s t : State) : Prop :=
  t = { s with bus := t.bus, scan := { s.scan with gate := t.scan.gate, tone := t.scan.tone }, attention := { s.attention with rest := t.attention.rest, displayWaiting := t.attention.displayWaiting }, card := { s.card with light := t.card.light, prompt := t.card.prompt, waiting := t.card.waiting } }

variable {s t u : State}

theorem OnlyLink.refl (s : State) : OnlyLink s s := rfl
theorem OnlyLink.trans (h : OnlyLink s t) (k : OnlyLink t u) : OnlyLink s u := by unfold OnlyLink at *; rw [k, h]
theorem OnlyLink.pending (h : OnlyLink s t) : t.pending = s.pending := by rw [h]
theorem OnlyLink.pins (h : OnlyLink s t) : t.pins = s.pins := by rw [h]
theorem OnlyLink.now (h : OnlyLink s t) : t.now = s.now := by rw [h]
theorem OnlyLink.lane (h : OnlyLink s t) : t.lane = s.lane := by rw [h]
theorem OnlyLink.bus (h : OnlyLink s t) : t.bus = s.bus := by rw [h]
theorem OnlyLink.attention (h : OnlyLink s t) : t.attention = s.attention := by rw [h]
theorem OnlyLink.scan (h : OnlyLink s t) : t.scan = s.scan := by rw [h]
theorem OnlyLink.cache (h : OnlyLink s t) : t.cache = s.cache := by rw [h]
theorem OnlyLink.w0 (h : OnlyLink s t) : t.w0 = s.w0 := by rw [h]
theorem OnlyLink.w1 (h : OnlyLink s t) : t.w1 = s.w1 := by rw [h]
theorem OnlyLink.bagging (h : OnlyLink s t) : t.bagging = s.bagging := by rw [h]
theorem OnlyLink.sale (h : OnlyLink s t) : t.sale = s.sale := by rw [h]
theorem OnlyLink.lastSale (h : OnlyLink s t) : t.lastSale = s.lastSale := by rw [h]
theorem OnlyLink.card (h : OnlyLink s t) : t.card = s.card := by rw [h]
theorem OnlyLink.drawer (h : OnlyLink s t) : t.drawer = s.drawer := by rw [h]
theorem OnlyLink.composer (h : OnlyLink s t) : t.composer = s.composer := by rw [h]
theorem OnlyLink.mechanism (h : OnlyLink s t) : t.mechanism = s.mechanism := by rw [h]

theorem OnlyBus.refl (s : State) : OnlyBus s s := rfl
theorem OnlyBus.trans (h : OnlyBus s t) (k : OnlyBus t u) : OnlyBus s u := by unfold OnlyBus at *; rw [k, h]
theorem OnlyBus.pending (h : OnlyBus s t) : t.pending = s.pending := by rw [h]
theorem OnlyBus.pins (h : OnlyBus s t) : t.pins = s.pins := by rw [h]
theorem OnlyBus.now (h : OnlyBus s t) : t.now = s.now := by rw [h]
theorem OnlyBus.link (h : OnlyBus s t) : t.link = s.link := by rw [h]
theorem OnlyBus.lane (h : OnlyBus s t) : t.lane = s.lane := by rw [h]
theorem OnlyBus.attention (h : OnlyBus s t) : t.attention = s.attention := by rw [h]
theorem OnlyBus.scan (h : OnlyBus s t) : t.scan = s.scan := by rw [h]
theorem OnlyBus.cache (h : OnlyBus s t) : t.cache = s.cache := by rw [h]
theorem OnlyBus.w0 (h : OnlyBus s t) : t.w0 = s.w0 := by rw [h]
theorem OnlyBus.w1 (h : OnlyBus s t) : t.w1 = s.w1 := by rw [h]
theorem OnlyBus.bagging (h : OnlyBus s t) : t.bagging = s.bagging := by rw [h]
theorem OnlyBus.sale (h : OnlyBus s t) : t.sale = s.sale := by rw [h]
theorem OnlyBus.lastSale (h : OnlyBus s t) : t.lastSale = s.lastSale := by rw [h]
theorem OnlyBus.card (h : OnlyBus s t) : t.card = s.card := by rw [h]
theorem OnlyBus.drawer (h : OnlyBus s t) : t.drawer = s.drawer := by rw [h]
theorem OnlyBus.composer (h : OnlyBus s t) : t.composer = s.composer := by rw [h]
theorem OnlyBus.mechanism (h : OnlyBus s t) : t.mechanism = s.mechanism := by rw [h]

theorem OnlyDisplay.refl (s : State) : OnlyDisplay s s := rfl
theorem OnlyDisplay.trans (h : OnlyDisplay s t) (k : OnlyDisplay t u) : OnlyDisplay s u := by unfold OnlyDisplay at *; rw [k, h]
theorem OnlyDisplay.pending (h : OnlyDisplay s t) : t.pending = s.pending := by rw [h]
theorem OnlyDisplay.pins (h : OnlyDisplay s t) : t.pins = s.pins := by rw [h]
theorem OnlyDisplay.now (h : OnlyDisplay s t) : t.now = s.now := by rw [h]
theorem OnlyDisplay.link (h : OnlyDisplay s t) : t.link = s.link := by rw [h]
theorem OnlyDisplay.lane (h : OnlyDisplay s t) : t.lane = s.lane := by rw [h]
theorem OnlyDisplay.attention_current (h : OnlyDisplay s t) : t.attention.current = s.attention.current := by rw [h]
theorem OnlyDisplay.attention_eventDeadline (h : OnlyDisplay s t) : t.attention.eventDeadline = s.attention.eventDeadline := by rw [h]
theorem OnlyDisplay.attention_conditions (h : OnlyDisplay s t) : t.attention.conditions = s.attention.conditions := by rw [h]
theorem OnlyDisplay.attention_silent (h : OnlyDisplay s t) : t.attention.silent = s.attention.silent := by rw [h]
theorem OnlyDisplay.attention_causes (h : OnlyDisplay s t) : t.attention.causes = s.attention.causes := by rw [h]
theorem OnlyDisplay.attention_primary (h : OnlyDisplay s t) : t.attention.primary = s.attention.primary := by rw [h]
theorem OnlyDisplay.attention_age (h : OnlyDisplay s t) : t.attention.age = s.attention.age := by rw [h]
theorem OnlyDisplay.scan (h : OnlyDisplay s t) : t.scan = s.scan := by rw [h]
theorem OnlyDisplay.cache (h : OnlyDisplay s t) : t.cache = s.cache := by rw [h]
theorem OnlyDisplay.w0 (h : OnlyDisplay s t) : t.w0 = s.w0 := by rw [h]
theorem OnlyDisplay.w1 (h : OnlyDisplay s t) : t.w1 = s.w1 := by rw [h]
theorem OnlyDisplay.bagging (h : OnlyDisplay s t) : t.bagging = s.bagging := by rw [h]
theorem OnlyDisplay.sale (h : OnlyDisplay s t) : t.sale = s.sale := by rw [h]
theorem OnlyDisplay.lastSale (h : OnlyDisplay s t) : t.lastSale = s.lastSale := by rw [h]
theorem OnlyDisplay.card (h : OnlyDisplay s t) : t.card = s.card := by rw [h]
theorem OnlyDisplay.drawer (h : OnlyDisplay s t) : t.drawer = s.drawer := by rw [h]
theorem OnlyDisplay.composer (h : OnlyDisplay s t) : t.composer = s.composer := by rw [h]
theorem OnlyDisplay.mechanism (h : OnlyDisplay s t) : t.mechanism = s.mechanism := by rw [h]

theorem OnlyPrompt.refl (s : State) : OnlyPrompt s s := rfl
theorem OnlyPrompt.trans (h : OnlyPrompt s t) (k : OnlyPrompt t u) : OnlyPrompt s u := by unfold OnlyPrompt at *; rw [k, h]
theorem OnlyPrompt.pending (h : OnlyPrompt s t) : t.pending = s.pending := by rw [h]
theorem OnlyPrompt.pins (h : OnlyPrompt s t) : t.pins = s.pins := by rw [h]
theorem OnlyPrompt.now (h : OnlyPrompt s t) : t.now = s.now := by rw [h]
theorem OnlyPrompt.lane (h : OnlyPrompt s t) : t.lane = s.lane := by rw [h]
theorem OnlyPrompt.attention_causes (h : OnlyPrompt s t) : t.attention.causes = s.attention.causes := by rw [h]
theorem OnlyPrompt.attention_primary (h : OnlyPrompt s t) : t.attention.primary = s.attention.primary := by rw [h]
theorem OnlyPrompt.attention_age (h : OnlyPrompt s t) : t.attention.age = s.attention.age := by rw [h]
theorem OnlyPrompt.scan (h : OnlyPrompt s t) : t.scan = s.scan := by rw [h]
theorem OnlyPrompt.cache (h : OnlyPrompt s t) : t.cache = s.cache := by rw [h]
theorem OnlyPrompt.w0 (h : OnlyPrompt s t) : t.w0 = s.w0 := by rw [h]
theorem OnlyPrompt.w1 (h : OnlyPrompt s t) : t.w1 = s.w1 := by rw [h]
theorem OnlyPrompt.bagging (h : OnlyPrompt s t) : t.bagging = s.bagging := by rw [h]
theorem OnlyPrompt.sale (h : OnlyPrompt s t) : t.sale = s.sale := by rw [h]
theorem OnlyPrompt.lastSale (h : OnlyPrompt s t) : t.lastSale = s.lastSale := by rw [h]
theorem OnlyPrompt.card (h : OnlyPrompt s t) : t.card = s.card := by rw [h]
theorem OnlyPrompt.drawer (h : OnlyPrompt s t) : t.drawer = s.drawer := by rw [h]
theorem OnlyPrompt.composer (h : OnlyPrompt s t) : t.composer = s.composer := by rw [h]
theorem OnlyPrompt.mechanism (h : OnlyPrompt s t) : t.mechanism = s.mechanism := by rw [h]

theorem OnlyCause.refl (s : State) : OnlyCause s s := rfl
theorem OnlyCause.trans (h : OnlyCause s t) (k : OnlyCause t u) : OnlyCause s u := by unfold OnlyCause at *; rw [k, h]
theorem OnlyCause.pending (h : OnlyCause s t) : t.pending = s.pending := by rw [h]
theorem OnlyCause.pins (h : OnlyCause s t) : t.pins = s.pins := by rw [h]
theorem OnlyCause.now (h : OnlyCause s t) : t.now = s.now := by rw [h]
theorem OnlyCause.lane (h : OnlyCause s t) : t.lane = s.lane := by rw [h]
theorem OnlyCause.attention_current (h : OnlyCause s t) : t.attention.current = s.attention.current := by rw [h]
theorem OnlyCause.attention_eventDeadline (h : OnlyCause s t) : t.attention.eventDeadline = s.attention.eventDeadline := by rw [h]
theorem OnlyCause.attention_conditions (h : OnlyCause s t) : t.attention.conditions = s.attention.conditions := by rw [h]
theorem OnlyCause.attention_silent (h : OnlyCause s t) : t.attention.silent = s.attention.silent := by rw [h]
theorem OnlyCause.scan (h : OnlyCause s t) : t.scan = s.scan := by rw [h]
theorem OnlyCause.cache (h : OnlyCause s t) : t.cache = s.cache := by rw [h]
theorem OnlyCause.w0 (h : OnlyCause s t) : t.w0 = s.w0 := by rw [h]
theorem OnlyCause.w1 (h : OnlyCause s t) : t.w1 = s.w1 := by rw [h]
theorem OnlyCause.bagging (h : OnlyCause s t) : t.bagging = s.bagging := by rw [h]
theorem OnlyCause.sale (h : OnlyCause s t) : t.sale = s.sale := by rw [h]
theorem OnlyCause.lastSale (h : OnlyCause s t) : t.lastSale = s.lastSale := by rw [h]
theorem OnlyCause.card (h : OnlyCause s t) : t.card = s.card := by rw [h]
theorem OnlyCause.drawer (h : OnlyCause s t) : t.drawer = s.drawer := by rw [h]
theorem OnlyCause.composer (h : OnlyCause s t) : t.composer = s.composer := by rw [h]
theorem OnlyCause.mechanism (h : OnlyCause s t) : t.mechanism = s.mechanism := by rw [h]

theorem OnlyAttention.refl (s : State) : OnlyAttention s s := rfl
theorem OnlyAttention.trans (h : OnlyAttention s t) (k : OnlyAttention t u) : OnlyAttention s u := by unfold OnlyAttention at *; rw [k, h]
theorem OnlyAttention.pending (h : OnlyAttention s t) : t.pending = s.pending := by rw [h]
theorem OnlyAttention.pins (h : OnlyAttention s t) : t.pins = s.pins := by rw [h]
theorem OnlyAttention.now (h : OnlyAttention s t) : t.now = s.now := by rw [h]
theorem OnlyAttention.lane (h : OnlyAttention s t) : t.lane = s.lane := by rw [h]
theorem OnlyAttention.scan (h : OnlyAttention s t) : t.scan = s.scan := by rw [h]
theorem OnlyAttention.cache (h : OnlyAttention s t) : t.cache = s.cache := by rw [h]
theorem OnlyAttention.w0 (h : OnlyAttention s t) : t.w0 = s.w0 := by rw [h]
theorem OnlyAttention.w1 (h : OnlyAttention s t) : t.w1 = s.w1 := by rw [h]
theorem OnlyAttention.bagging (h : OnlyAttention s t) : t.bagging = s.bagging := by rw [h]
theorem OnlyAttention.sale (h : OnlyAttention s t) : t.sale = s.sale := by rw [h]
theorem OnlyAttention.lastSale (h : OnlyAttention s t) : t.lastSale = s.lastSale := by rw [h]
theorem OnlyAttention.card (h : OnlyAttention s t) : t.card = s.card := by rw [h]
theorem OnlyAttention.drawer (h : OnlyAttention s t) : t.drawer = s.drawer := by rw [h]
theorem OnlyAttention.composer (h : OnlyAttention s t) : t.composer = s.composer := by rw [h]
theorem OnlyAttention.mechanism (h : OnlyAttention s t) : t.mechanism = s.mechanism := by rw [h]

theorem OnlyReader.refl (s : State) : OnlyReader s s := rfl
theorem OnlyReader.trans (h : OnlyReader s t) (k : OnlyReader t u) : OnlyReader s u := by unfold OnlyReader at *; rw [k, h]
theorem OnlyReader.pending (h : OnlyReader s t) : t.pending = s.pending := by rw [h]
theorem OnlyReader.pins (h : OnlyReader s t) : t.pins = s.pins := by rw [h]
theorem OnlyReader.now (h : OnlyReader s t) : t.now = s.now := by rw [h]
theorem OnlyReader.link (h : OnlyReader s t) : t.link = s.link := by rw [h]
theorem OnlyReader.lane (h : OnlyReader s t) : t.lane = s.lane := by rw [h]
theorem OnlyReader.attention (h : OnlyReader s t) : t.attention = s.attention := by rw [h]
theorem OnlyReader.scan (h : OnlyReader s t) : t.scan = s.scan := by rw [h]
theorem OnlyReader.cache (h : OnlyReader s t) : t.cache = s.cache := by rw [h]
theorem OnlyReader.w0 (h : OnlyReader s t) : t.w0 = s.w0 := by rw [h]
theorem OnlyReader.w1 (h : OnlyReader s t) : t.w1 = s.w1 := by rw [h]
theorem OnlyReader.bagging (h : OnlyReader s t) : t.bagging = s.bagging := by rw [h]
theorem OnlyReader.sale (h : OnlyReader s t) : t.sale = s.sale := by rw [h]
theorem OnlyReader.lastSale (h : OnlyReader s t) : t.lastSale = s.lastSale := by rw [h]
theorem OnlyReader.card_session (h : OnlyReader s t) : t.card.session = s.card.session := by rw [h]
theorem OnlyReader.card_failures (h : OnlyReader s t) : t.card.failures = s.card.failures := by rw [h]
theorem OnlyReader.card_attempts (h : OnlyReader s t) : t.card.attempts = s.card.attempts := by rw [h]
theorem OnlyReader.card_issuers (h : OnlyReader s t) : t.card.issuers = s.card.issuers := by rw [h]
theorem OnlyReader.drawer (h : OnlyReader s t) : t.drawer = s.drawer := by rw [h]
theorem OnlyReader.composer (h : OnlyReader s t) : t.composer = s.composer := by rw [h]
theorem OnlyReader.mechanism (h : OnlyReader s t) : t.mechanism = s.mechanism := by rw [h]

theorem OnlyGate.refl (s : State) : OnlyGate s s := rfl
theorem OnlyGate.trans (h : OnlyGate s t) (k : OnlyGate t u) : OnlyGate s u := by unfold OnlyGate at *; rw [k, h]
theorem OnlyGate.pending (h : OnlyGate s t) : t.pending = s.pending := by rw [h]
theorem OnlyGate.pins (h : OnlyGate s t) : t.pins = s.pins := by rw [h]
theorem OnlyGate.now (h : OnlyGate s t) : t.now = s.now := by rw [h]
theorem OnlyGate.link (h : OnlyGate s t) : t.link = s.link := by rw [h]
theorem OnlyGate.lane (h : OnlyGate s t) : t.lane = s.lane := by rw [h]
theorem OnlyGate.attention (h : OnlyGate s t) : t.attention = s.attention := by rw [h]
theorem OnlyGate.scan_queue (h : OnlyGate s t) : t.scan.queue = s.scan.queue := by rw [h]
theorem OnlyGate.scan_lookups (h : OnlyGate s t) : t.scan.lookups = s.scan.lookups := by rw [h]
theorem OnlyGate.scan_rules (h : OnlyGate s t) : t.scan.rules = s.scan.rules := by rw [h]
theorem OnlyGate.scan_capture (h : OnlyGate s t) : t.scan.capture = s.scan.capture := by rw [h]
theorem OnlyGate.cache (h : OnlyGate s t) : t.cache = s.cache := by rw [h]
theorem OnlyGate.w0 (h : OnlyGate s t) : t.w0 = s.w0 := by rw [h]
theorem OnlyGate.w1 (h : OnlyGate s t) : t.w1 = s.w1 := by rw [h]
theorem OnlyGate.bagging (h : OnlyGate s t) : t.bagging = s.bagging := by rw [h]
theorem OnlyGate.sale (h : OnlyGate s t) : t.sale = s.sale := by rw [h]
theorem OnlyGate.lastSale (h : OnlyGate s t) : t.lastSale = s.lastSale := by rw [h]
theorem OnlyGate.card (h : OnlyGate s t) : t.card = s.card := by rw [h]
theorem OnlyGate.drawer (h : OnlyGate s t) : t.drawer = s.drawer := by rw [h]
theorem OnlyGate.composer (h : OnlyGate s t) : t.composer = s.composer := by rw [h]
theorem OnlyGate.mechanism (h : OnlyGate s t) : t.mechanism = s.mechanism := by rw [h]

theorem OnlyShown.refl (s : State) : OnlyShown s s := rfl
theorem OnlyShown.trans (h : OnlyShown s t) (k : OnlyShown t u) : OnlyShown s u := by unfold OnlyShown at *; rw [k, h]
theorem OnlyShown.pending (h : OnlyShown s t) : t.pending = s.pending := by rw [h]
theorem OnlyShown.pins (h : OnlyShown s t) : t.pins = s.pins := by rw [h]
theorem OnlyShown.now (h : OnlyShown s t) : t.now = s.now := by rw [h]
theorem OnlyShown.link (h : OnlyShown s t) : t.link = s.link := by rw [h]
theorem OnlyShown.lane (h : OnlyShown s t) : t.lane = s.lane := by rw [h]
theorem OnlyShown.attention_current (h : OnlyShown s t) : t.attention.current = s.attention.current := by rw [h]
theorem OnlyShown.attention_eventDeadline (h : OnlyShown s t) : t.attention.eventDeadline = s.attention.eventDeadline := by rw [h]
theorem OnlyShown.attention_conditions (h : OnlyShown s t) : t.attention.conditions = s.attention.conditions := by rw [h]
theorem OnlyShown.attention_silent (h : OnlyShown s t) : t.attention.silent = s.attention.silent := by rw [h]
theorem OnlyShown.attention_causes (h : OnlyShown s t) : t.attention.causes = s.attention.causes := by rw [h]
theorem OnlyShown.attention_primary (h : OnlyShown s t) : t.attention.primary = s.attention.primary := by rw [h]
theorem OnlyShown.attention_age (h : OnlyShown s t) : t.attention.age = s.attention.age := by rw [h]
theorem OnlyShown.scan_queue (h : OnlyShown s t) : t.scan.queue = s.scan.queue := by rw [h]
theorem OnlyShown.scan_lookups (h : OnlyShown s t) : t.scan.lookups = s.scan.lookups := by rw [h]
theorem OnlyShown.scan_rules (h : OnlyShown s t) : t.scan.rules = s.scan.rules := by rw [h]
theorem OnlyShown.scan_capture (h : OnlyShown s t) : t.scan.capture = s.scan.capture := by rw [h]
theorem OnlyShown.cache (h : OnlyShown s t) : t.cache = s.cache := by rw [h]
theorem OnlyShown.w0 (h : OnlyShown s t) : t.w0 = s.w0 := by rw [h]
theorem OnlyShown.w1 (h : OnlyShown s t) : t.w1 = s.w1 := by rw [h]
theorem OnlyShown.bagging (h : OnlyShown s t) : t.bagging = s.bagging := by rw [h]
theorem OnlyShown.sale (h : OnlyShown s t) : t.sale = s.sale := by rw [h]
theorem OnlyShown.lastSale (h : OnlyShown s t) : t.lastSale = s.lastSale := by rw [h]
theorem OnlyShown.card_session (h : OnlyShown s t) : t.card.session = s.card.session := by rw [h]
theorem OnlyShown.card_failures (h : OnlyShown s t) : t.card.failures = s.card.failures := by rw [h]
theorem OnlyShown.card_attempts (h : OnlyShown s t) : t.card.attempts = s.card.attempts := by rw [h]
theorem OnlyShown.card_issuers (h : OnlyShown s t) : t.card.issuers = s.card.issuers := by rw [h]
theorem OnlyShown.drawer (h : OnlyShown s t) : t.drawer = s.drawer := by rw [h]
theorem OnlyShown.composer (h : OnlyShown s t) : t.composer = s.composer := by rw [h]
theorem OnlyShown.mechanism (h : OnlyShown s t) : t.mechanism = s.mechanism := by rw [h]

theorem OnlyLink.toPrompt (h : OnlyLink s t) : OnlyPrompt s t := by unfold OnlyPrompt; rw [h]
theorem OnlyLink.toCause (h : OnlyLink s t) : OnlyCause s t := by unfold OnlyCause; rw [h]
theorem OnlyDisplay.toPrompt (h : OnlyDisplay s t) : OnlyPrompt s t := by unfold OnlyPrompt; rw [h]
theorem OnlyPrompt.toAttention (h : OnlyPrompt s t) : OnlyAttention s t := by unfold OnlyAttention; rw [h]
theorem OnlyDisplay.toCause (h : OnlyDisplay s t) : OnlyCause s t := by unfold OnlyCause; rw [h]
theorem OnlyCause.toAttention (h : OnlyCause s t) : OnlyAttention s t := by unfold OnlyAttention; rw [h]
theorem OnlyBus.toDisplay (h : OnlyBus s t) : OnlyDisplay s t := by unfold OnlyDisplay; rw [h]
theorem OnlyBus.toReader (h : OnlyBus s t) : OnlyReader s t := by unfold OnlyReader; rw [h]
theorem OnlyBus.toGate (h : OnlyBus s t) : OnlyGate s t := by unfold OnlyGate; rw [h]
theorem OnlyGate.toShown (h : OnlyGate s t) : OnlyShown s t := by unfold OnlyShown; rw [h]
theorem OnlyDisplay.toShown (h : OnlyDisplay s t) : OnlyShown s t := by unfold OnlyShown; rw [h]
theorem OnlyReader.toShown (h : OnlyReader s t) : OnlyShown s t := by unfold OnlyShown; rw [h]

/-! ## The outbound queue (R185, R186) -/

theorem answered_only (x : WaitingReply) (s : State) : OnlyLink s (answered x s) := by unfold answered; split <;> rfl

theorem queueReply_only (x : WaitingReply) (s : State) : OnlyLink s (queueReply x s) := answered_only x _

theorem offerReply_only (x : WaitingReply) (s : State) : OnlyLink s (offerReply x s) := by
  unfold offerReply; split
  · exact queueReply_only x s
  · split <;> rfl

theorem admitReply_only (s : State) : OnlyLink s (admitReply s) := by
  unfold admitReply; split
  · split <;> rfl
  · rfl

theorem takeReply_only (x : WaitingReply) (xs : List WaitingReply) (s : State) : OnlyLink s (takeReply x xs s) :=
  (OnlyLink.trans (t := { s with link := _ }) rfl (queueReply_only _ _)).trans (admitReply_only _)

theorem waitNotice_only (src : Source) (n : Notice) (s : State) : OnlyLink s (waitNotice src n s) := by unfold waitNotice; dsimp only; split <;> (try split) <;> rfl

theorem offerNotice_only (src : Source) (n : Notice) (s : State) : OnlyLink s (offerNotice src n s) := by
  unfold offerNotice; split
  · rfl
  · exact waitNotice_only src n s

theorem drainNotices_only (k : Nat) (s : State) : OnlyLink s (drainNotices k s) := by
  induction k generalizing s with
  | zero => rfl
  | succ k ih =>
    unfold drainNotices; split
    · split
      · refine OnlyLink.trans ?_ (ih _)
        rfl
      · rfl
    · rfl

theorem drainReplies_only (k : Nat) (s : State) : OnlyLink s (drainReplies k s) := by
  induction k generalizing s with
  | zero => rfl
  | succ k ih =>
    unfold drainReplies; split
    · split
      · exact (takeReply_only _ _ s).trans (ih _)
      · rfl
    · rfl

theorem refillQueue_only (s : State) : OnlyLink s (refillQueue s) := (drainNotices_only _ s).trans (drainReplies_only _ _)

theorem placeFreed_only (s : State) : OnlyLink s (placeFreed s) := by
  unfold placeFreed; dsimp only; split
  · exact OnlyLink.trans (t := { s with link := _ }) rfl ((takeReply_only _ _ _).trans (refillQueue_only _))
  · exact OnlyLink.trans (t := { s with link := _ }) rfl (refillQueue_only _)

theorem dropWaiter_only (x : Waiter) (s : State) : OnlyLink s (dropWaiter x s) := OnlyLink.trans (t := { s with link := _ }) rfl (refillQueue_only _)

theorem replyDone_only (a : Address) (r : Req) (d : ReplyData) (s : State) : OnlyLink s (replyDone a r d s) := offerReply_only _ s

theorem replyRefused_only (a : Address) (r : Req) (x : Reason) (s : State) : OnlyLink s (replyRefused a r x s) := offerReply_only _ s

theorem refuseFrame_only (a : Address) (r : Req) (x : Reason) (s : State) : OnlyLink s (refuseFrame a r x s) := offerReply_only _ s

/-! ## Display (R163, R166) -/

theorem offerDisplay_only (m : List Byte) (s : State) : OnlyDisplay s (offerDisplay m s) := by
  unfold offerDisplay; split
  · rfl
  · split <;> rfl

theorem sendEntry_only (e : Fin 16) (s : State) : OnlyDisplay s (sendEntry e s) := offerDisplay_only _ s

theorem sendLineText_only (a b : Text) (s : State) : OnlyDisplay s (sendLineText a b s) := offerDisplay_only _ s

theorem sendRest_only (s : State) : OnlyDisplay s (sendRest s) := OnlyDisplay.trans (t := { s with attention := { s.attention with rest := s.restSelection } }) rfl (sendEntry_only _ _)

theorem refreshRest_only (s : State) : OnlyDisplay s (refreshRest s) := by
  unfold refreshRest; split
  · rfl
  · split
    · exact sendRest_only s
    · rfl

theorem showPrompt_only (p : Prompt) (s : State) : OnlyDisplay s (showPrompt p s) := by
  unfold showPrompt; split
  · rfl
  · exact sendEntry_only _ s

theorem sendSlot_only (s : State) : OnlyDisplay s (sendSlot s) := by
  unfold sendSlot; split
  · exact showPrompt_only _ s
  · exact sendRest_only s

/-! ## Causes and prompts (R164, R165, R167, R168, R169) -/

theorem notifyAttention_only (s : State) : OnlyLink s (notifyAttention s) := offerNotice_only _ _ s

theorem listCause_only (c : Cause) (n : Nat) (d : Option Int) (s : State) : OnlyCause s (listCause c n d s) := rfl

theorem raiseCause_only (c : Cause) (n : Nat) (d : Option Int) (s : State) : OnlyCause s (raiseCause c n d s) := by
  unfold raiseCause; split
  · rfl
  · exact (listCause_only c n d s).trans ((refreshRest_only _).toCause.trans (notifyAttention_only _).toCause)

theorem removeCause_only (c : Cause) (s : State) : OnlyCause s (removeCause c s) := rfl

theorem notifyPrompt_only (m : PromptMark) (s : State) : OnlyLink s (notifyPrompt m s) := offerNotice_only _ _ s

theorem notifyPromoted_only (p : Prompt) (s : State) : OnlyLink s (notifyPromoted p s) := offerNotice_only _ _ s

theorem recordSetting_only (k : PromptKind) (s : State) : OnlyPrompt s (recordSetting k s) := rfl

theorem listCondition_only (p : Prompt) (s : State) : OnlyPrompt s (listCondition p s) := by unfold listCondition; split <;> rfl

theorem startEventTimer_only (p : Prompt) (s : State) : OnlyPrompt s (startEventTimer p s) := rfl

theorem takePrompt_only (p : Prompt) (s : State) : OnlyPrompt s (takePrompt p s) := by
  unfold takePrompt; dsimp only; split
  · exact (listCondition_only p s).trans (startEventTimer_only p _)
  · exact (OnlyPrompt.trans (t := { listCondition p s with attention := { (listCondition p s).attention with current := some p } })
      ((listCondition_only p s).trans rfl) ((recordSetting_only p.kind _).trans (startEventTimer_only p _))).trans
      ((showPrompt_only p _).toPrompt.trans (notifyPrompt_only _ _).toPrompt)

theorem raisePrompt_only (p : Prompt) (n : Nat) (d : Option Int) (s : State) : OnlyAttention s (raisePrompt p n d s) := by
  unfold raisePrompt; split
  · exact (raiseCause_only _ n d s).toAttention.trans (notifyPromoted_only _ _).toPrompt.toAttention
  · exact (takePrompt_only p s).toAttention

theorem raiseSimple_only (k : PromptKind) (s : State) : OnlyAttention s (raiseSimple k s) := raisePrompt_only _ _ _ s

theorem fallBack_only (s : State) : OnlyPrompt s (fallBack s) := by
  unfold fallBack; split
  · exact OnlyPrompt.trans (t := { s with attention := { s.attention with current := _, eventDeadline := none } }) rfl
      ((showPrompt_only _ _).toPrompt.trans (notifyPrompt_only _ _).toPrompt)
  · exact OnlyPrompt.trans (t := { s with attention := { s.attention with current := none, eventDeadline := none } }) rfl
      ((sendRest_only _).toPrompt.trans (notifyPrompt_only _ _).toPrompt)

theorem withdrawPrompt_only (k : PromptKind) (s : State) : OnlyPrompt s (withdrawPrompt k s) := by
  unfold withdrawPrompt; split
  · dsimp only; split
    · exact OnlyPrompt.trans (t := { s with attention := { s.attention with conditions := _ } }) rfl (fallBack_only _)
    · rfl
  · rfl

theorem dropEventPrompt_only (k : PromptKind) (s : State) : OnlyPrompt s (dropEventPrompt k s) := by
  unfold dropEventPrompt; split
  · exact fallBack_only s
  · rfl

/-! ## Reader display and scanner status slot (R38, R96) -/

theorem promptSent_only (m : ReaderOut) (s : State) : OnlyReader s (promptSent m s) := by
  unfold promptSent; split
  · split <;> rfl
  · rfl

theorem joinReader_only (m : ReaderOut) (s : State) : OnlyReader s (joinReader m s) :=
  OnlyReader.trans (t := joinTransmit 1 (.reader m) s) rfl (promptSent_only m _)

theorem offerReader_only (m : ReaderOut) (s : State) : OnlyReader s (offerReader m s) := by
  unfold offerReader; split
  · rfl
  · split
    · exact joinReader_only m s
    · rfl

theorem sendReadiness_only (s : State) : OnlyReader s (sendReadiness s) := offerReader_only _ s

theorem refreshReader_only (s : State) : OnlyReader s (refreshReader s) := by
  unfold refreshReader; dsimp only; split
  · rfl
  · split
    · rfl
    · exact OnlyReader.trans (t := setStatus 1 s.lightSelection { s with card := { s.card with light := s.lightSelection } }) rfl
        (sendReadiness_only _)

theorem raiseReaderPrompt_only (k : ReaderPromptKind) (s : State) : OnlyReader s (raiseReaderPrompt k s) := OnlyReader.trans (t := { s with card := { s.card with prompt := _ } }) rfl (offerReader_only _ _)

theorem endReaderPrompt_only (s : State) : OnlyReader s (endReaderPrompt s) := OnlyReader.trans (t := { s with card := { s.card with prompt := none } }) rfl (sendReadiness_only _)

theorem refreshGate_only (s : State) : OnlyGate s (refreshGate s) := by
  unfold refreshGate; split
  · rfl
  · dsimp only; split <;> rfl

theorem sendTone_only (x : Tone) (s : State) : OnlyGate s (sendTone x s) := rfl

theorem publish_only (s : State) : OnlyShown s (publish s) := (refreshGate_only s).toShown.trans ((refreshRest_only _).toShown.trans (refreshReader_only _).toShown)

/-! ## The fields each operation leaves -/

@[simp] theorem offerReply_pending (x : WaitingReply) (s : State) : (offerReply x s).pending = s.pending := (offerReply_only x s).pending
@[simp] theorem offerReply_pins (x : WaitingReply) (s : State) : (offerReply x s).pins = s.pins := (offerReply_only x s).pins
@[simp] theorem offerReply_now (x : WaitingReply) (s : State) : (offerReply x s).now = s.now := (offerReply_only x s).now
@[simp] theorem offerReply_lane (x : WaitingReply) (s : State) : (offerReply x s).lane = s.lane := (offerReply_only x s).lane
@[simp] theorem offerReply_bus (x : WaitingReply) (s : State) : (offerReply x s).bus = s.bus := (offerReply_only x s).bus
@[simp] theorem offerReply_attention (x : WaitingReply) (s : State) : (offerReply x s).attention = s.attention := (offerReply_only x s).attention
@[simp] theorem offerReply_scan (x : WaitingReply) (s : State) : (offerReply x s).scan = s.scan := (offerReply_only x s).scan
@[simp] theorem offerReply_cache (x : WaitingReply) (s : State) : (offerReply x s).cache = s.cache := (offerReply_only x s).cache
@[simp] theorem offerReply_w0 (x : WaitingReply) (s : State) : (offerReply x s).w0 = s.w0 := (offerReply_only x s).w0
@[simp] theorem offerReply_w1 (x : WaitingReply) (s : State) : (offerReply x s).w1 = s.w1 := (offerReply_only x s).w1
@[simp] theorem offerReply_bagging (x : WaitingReply) (s : State) : (offerReply x s).bagging = s.bagging := (offerReply_only x s).bagging
@[simp] theorem offerReply_sale (x : WaitingReply) (s : State) : (offerReply x s).sale = s.sale := (offerReply_only x s).sale
@[simp] theorem offerReply_lastSale (x : WaitingReply) (s : State) : (offerReply x s).lastSale = s.lastSale := (offerReply_only x s).lastSale
@[simp] theorem offerReply_card (x : WaitingReply) (s : State) : (offerReply x s).card = s.card := (offerReply_only x s).card
@[simp] theorem offerReply_drawer (x : WaitingReply) (s : State) : (offerReply x s).drawer = s.drawer := (offerReply_only x s).drawer
@[simp] theorem offerReply_composer (x : WaitingReply) (s : State) : (offerReply x s).composer = s.composer := (offerReply_only x s).composer
@[simp] theorem offerReply_mechanism (x : WaitingReply) (s : State) : (offerReply x s).mechanism = s.mechanism := (offerReply_only x s).mechanism

@[simp] theorem offerNotice_pending (src : Source) (n : Notice) (s : State) : (offerNotice src n s).pending = s.pending := (offerNotice_only src n s).pending
@[simp] theorem offerNotice_pins (src : Source) (n : Notice) (s : State) : (offerNotice src n s).pins = s.pins := (offerNotice_only src n s).pins
@[simp] theorem offerNotice_now (src : Source) (n : Notice) (s : State) : (offerNotice src n s).now = s.now := (offerNotice_only src n s).now
@[simp] theorem offerNotice_lane (src : Source) (n : Notice) (s : State) : (offerNotice src n s).lane = s.lane := (offerNotice_only src n s).lane
@[simp] theorem offerNotice_bus (src : Source) (n : Notice) (s : State) : (offerNotice src n s).bus = s.bus := (offerNotice_only src n s).bus
@[simp] theorem offerNotice_attention (src : Source) (n : Notice) (s : State) : (offerNotice src n s).attention = s.attention := (offerNotice_only src n s).attention
@[simp] theorem offerNotice_scan (src : Source) (n : Notice) (s : State) : (offerNotice src n s).scan = s.scan := (offerNotice_only src n s).scan
@[simp] theorem offerNotice_cache (src : Source) (n : Notice) (s : State) : (offerNotice src n s).cache = s.cache := (offerNotice_only src n s).cache
@[simp] theorem offerNotice_w0 (src : Source) (n : Notice) (s : State) : (offerNotice src n s).w0 = s.w0 := (offerNotice_only src n s).w0
@[simp] theorem offerNotice_w1 (src : Source) (n : Notice) (s : State) : (offerNotice src n s).w1 = s.w1 := (offerNotice_only src n s).w1
@[simp] theorem offerNotice_bagging (src : Source) (n : Notice) (s : State) : (offerNotice src n s).bagging = s.bagging := (offerNotice_only src n s).bagging
@[simp] theorem offerNotice_sale (src : Source) (n : Notice) (s : State) : (offerNotice src n s).sale = s.sale := (offerNotice_only src n s).sale
@[simp] theorem offerNotice_lastSale (src : Source) (n : Notice) (s : State) : (offerNotice src n s).lastSale = s.lastSale := (offerNotice_only src n s).lastSale
@[simp] theorem offerNotice_card (src : Source) (n : Notice) (s : State) : (offerNotice src n s).card = s.card := (offerNotice_only src n s).card
@[simp] theorem offerNotice_drawer (src : Source) (n : Notice) (s : State) : (offerNotice src n s).drawer = s.drawer := (offerNotice_only src n s).drawer
@[simp] theorem offerNotice_composer (src : Source) (n : Notice) (s : State) : (offerNotice src n s).composer = s.composer := (offerNotice_only src n s).composer
@[simp] theorem offerNotice_mechanism (src : Source) (n : Notice) (s : State) : (offerNotice src n s).mechanism = s.mechanism := (offerNotice_only src n s).mechanism

@[simp] theorem refillQueue_pending (s : State) : (refillQueue s).pending = s.pending := (refillQueue_only s).pending
@[simp] theorem refillQueue_pins (s : State) : (refillQueue s).pins = s.pins := (refillQueue_only s).pins
@[simp] theorem refillQueue_now (s : State) : (refillQueue s).now = s.now := (refillQueue_only s).now
@[simp] theorem refillQueue_lane (s : State) : (refillQueue s).lane = s.lane := (refillQueue_only s).lane
@[simp] theorem refillQueue_bus (s : State) : (refillQueue s).bus = s.bus := (refillQueue_only s).bus
@[simp] theorem refillQueue_attention (s : State) : (refillQueue s).attention = s.attention := (refillQueue_only s).attention
@[simp] theorem refillQueue_scan (s : State) : (refillQueue s).scan = s.scan := (refillQueue_only s).scan
@[simp] theorem refillQueue_cache (s : State) : (refillQueue s).cache = s.cache := (refillQueue_only s).cache
@[simp] theorem refillQueue_w0 (s : State) : (refillQueue s).w0 = s.w0 := (refillQueue_only s).w0
@[simp] theorem refillQueue_w1 (s : State) : (refillQueue s).w1 = s.w1 := (refillQueue_only s).w1
@[simp] theorem refillQueue_bagging (s : State) : (refillQueue s).bagging = s.bagging := (refillQueue_only s).bagging
@[simp] theorem refillQueue_sale (s : State) : (refillQueue s).sale = s.sale := (refillQueue_only s).sale
@[simp] theorem refillQueue_lastSale (s : State) : (refillQueue s).lastSale = s.lastSale := (refillQueue_only s).lastSale
@[simp] theorem refillQueue_card (s : State) : (refillQueue s).card = s.card := (refillQueue_only s).card
@[simp] theorem refillQueue_drawer (s : State) : (refillQueue s).drawer = s.drawer := (refillQueue_only s).drawer
@[simp] theorem refillQueue_composer (s : State) : (refillQueue s).composer = s.composer := (refillQueue_only s).composer
@[simp] theorem refillQueue_mechanism (s : State) : (refillQueue s).mechanism = s.mechanism := (refillQueue_only s).mechanism

@[simp] theorem placeFreed_pending (s : State) : (placeFreed s).pending = s.pending := (placeFreed_only s).pending
@[simp] theorem placeFreed_pins (s : State) : (placeFreed s).pins = s.pins := (placeFreed_only s).pins
@[simp] theorem placeFreed_now (s : State) : (placeFreed s).now = s.now := (placeFreed_only s).now
@[simp] theorem placeFreed_lane (s : State) : (placeFreed s).lane = s.lane := (placeFreed_only s).lane
@[simp] theorem placeFreed_bus (s : State) : (placeFreed s).bus = s.bus := (placeFreed_only s).bus
@[simp] theorem placeFreed_attention (s : State) : (placeFreed s).attention = s.attention := (placeFreed_only s).attention
@[simp] theorem placeFreed_scan (s : State) : (placeFreed s).scan = s.scan := (placeFreed_only s).scan
@[simp] theorem placeFreed_cache (s : State) : (placeFreed s).cache = s.cache := (placeFreed_only s).cache
@[simp] theorem placeFreed_w0 (s : State) : (placeFreed s).w0 = s.w0 := (placeFreed_only s).w0
@[simp] theorem placeFreed_w1 (s : State) : (placeFreed s).w1 = s.w1 := (placeFreed_only s).w1
@[simp] theorem placeFreed_bagging (s : State) : (placeFreed s).bagging = s.bagging := (placeFreed_only s).bagging
@[simp] theorem placeFreed_sale (s : State) : (placeFreed s).sale = s.sale := (placeFreed_only s).sale
@[simp] theorem placeFreed_lastSale (s : State) : (placeFreed s).lastSale = s.lastSale := (placeFreed_only s).lastSale
@[simp] theorem placeFreed_card (s : State) : (placeFreed s).card = s.card := (placeFreed_only s).card
@[simp] theorem placeFreed_drawer (s : State) : (placeFreed s).drawer = s.drawer := (placeFreed_only s).drawer
@[simp] theorem placeFreed_composer (s : State) : (placeFreed s).composer = s.composer := (placeFreed_only s).composer
@[simp] theorem placeFreed_mechanism (s : State) : (placeFreed s).mechanism = s.mechanism := (placeFreed_only s).mechanism

@[simp] theorem dropWaiter_pending (x : Waiter) (s : State) : (dropWaiter x s).pending = s.pending := (dropWaiter_only x s).pending
@[simp] theorem dropWaiter_pins (x : Waiter) (s : State) : (dropWaiter x s).pins = s.pins := (dropWaiter_only x s).pins
@[simp] theorem dropWaiter_now (x : Waiter) (s : State) : (dropWaiter x s).now = s.now := (dropWaiter_only x s).now
@[simp] theorem dropWaiter_lane (x : Waiter) (s : State) : (dropWaiter x s).lane = s.lane := (dropWaiter_only x s).lane
@[simp] theorem dropWaiter_bus (x : Waiter) (s : State) : (dropWaiter x s).bus = s.bus := (dropWaiter_only x s).bus
@[simp] theorem dropWaiter_attention (x : Waiter) (s : State) : (dropWaiter x s).attention = s.attention := (dropWaiter_only x s).attention
@[simp] theorem dropWaiter_scan (x : Waiter) (s : State) : (dropWaiter x s).scan = s.scan := (dropWaiter_only x s).scan
@[simp] theorem dropWaiter_cache (x : Waiter) (s : State) : (dropWaiter x s).cache = s.cache := (dropWaiter_only x s).cache
@[simp] theorem dropWaiter_w0 (x : Waiter) (s : State) : (dropWaiter x s).w0 = s.w0 := (dropWaiter_only x s).w0
@[simp] theorem dropWaiter_w1 (x : Waiter) (s : State) : (dropWaiter x s).w1 = s.w1 := (dropWaiter_only x s).w1
@[simp] theorem dropWaiter_bagging (x : Waiter) (s : State) : (dropWaiter x s).bagging = s.bagging := (dropWaiter_only x s).bagging
@[simp] theorem dropWaiter_sale (x : Waiter) (s : State) : (dropWaiter x s).sale = s.sale := (dropWaiter_only x s).sale
@[simp] theorem dropWaiter_lastSale (x : Waiter) (s : State) : (dropWaiter x s).lastSale = s.lastSale := (dropWaiter_only x s).lastSale
@[simp] theorem dropWaiter_card (x : Waiter) (s : State) : (dropWaiter x s).card = s.card := (dropWaiter_only x s).card
@[simp] theorem dropWaiter_drawer (x : Waiter) (s : State) : (dropWaiter x s).drawer = s.drawer := (dropWaiter_only x s).drawer
@[simp] theorem dropWaiter_composer (x : Waiter) (s : State) : (dropWaiter x s).composer = s.composer := (dropWaiter_only x s).composer
@[simp] theorem dropWaiter_mechanism (x : Waiter) (s : State) : (dropWaiter x s).mechanism = s.mechanism := (dropWaiter_only x s).mechanism

@[simp] theorem replyDone_pending (a : Address) (r : Req) (d : ReplyData) (s : State) : (replyDone a r d s).pending = s.pending := (replyDone_only a r d s).pending
@[simp] theorem replyDone_pins (a : Address) (r : Req) (d : ReplyData) (s : State) : (replyDone a r d s).pins = s.pins := (replyDone_only a r d s).pins
@[simp] theorem replyDone_now (a : Address) (r : Req) (d : ReplyData) (s : State) : (replyDone a r d s).now = s.now := (replyDone_only a r d s).now
@[simp] theorem replyDone_lane (a : Address) (r : Req) (d : ReplyData) (s : State) : (replyDone a r d s).lane = s.lane := (replyDone_only a r d s).lane
@[simp] theorem replyDone_bus (a : Address) (r : Req) (d : ReplyData) (s : State) : (replyDone a r d s).bus = s.bus := (replyDone_only a r d s).bus
@[simp] theorem replyDone_attention (a : Address) (r : Req) (d : ReplyData) (s : State) : (replyDone a r d s).attention = s.attention := (replyDone_only a r d s).attention
@[simp] theorem replyDone_scan (a : Address) (r : Req) (d : ReplyData) (s : State) : (replyDone a r d s).scan = s.scan := (replyDone_only a r d s).scan
@[simp] theorem replyDone_cache (a : Address) (r : Req) (d : ReplyData) (s : State) : (replyDone a r d s).cache = s.cache := (replyDone_only a r d s).cache
@[simp] theorem replyDone_w0 (a : Address) (r : Req) (d : ReplyData) (s : State) : (replyDone a r d s).w0 = s.w0 := (replyDone_only a r d s).w0
@[simp] theorem replyDone_w1 (a : Address) (r : Req) (d : ReplyData) (s : State) : (replyDone a r d s).w1 = s.w1 := (replyDone_only a r d s).w1
@[simp] theorem replyDone_bagging (a : Address) (r : Req) (d : ReplyData) (s : State) : (replyDone a r d s).bagging = s.bagging := (replyDone_only a r d s).bagging
@[simp] theorem replyDone_sale (a : Address) (r : Req) (d : ReplyData) (s : State) : (replyDone a r d s).sale = s.sale := (replyDone_only a r d s).sale
@[simp] theorem replyDone_lastSale (a : Address) (r : Req) (d : ReplyData) (s : State) : (replyDone a r d s).lastSale = s.lastSale := (replyDone_only a r d s).lastSale
@[simp] theorem replyDone_card (a : Address) (r : Req) (d : ReplyData) (s : State) : (replyDone a r d s).card = s.card := (replyDone_only a r d s).card
@[simp] theorem replyDone_drawer (a : Address) (r : Req) (d : ReplyData) (s : State) : (replyDone a r d s).drawer = s.drawer := (replyDone_only a r d s).drawer
@[simp] theorem replyDone_composer (a : Address) (r : Req) (d : ReplyData) (s : State) : (replyDone a r d s).composer = s.composer := (replyDone_only a r d s).composer
@[simp] theorem replyDone_mechanism (a : Address) (r : Req) (d : ReplyData) (s : State) : (replyDone a r d s).mechanism = s.mechanism := (replyDone_only a r d s).mechanism

@[simp] theorem replyRefused_pending (a : Address) (r : Req) (x : Reason) (s : State) : (replyRefused a r x s).pending = s.pending := (replyRefused_only a r x s).pending
@[simp] theorem replyRefused_pins (a : Address) (r : Req) (x : Reason) (s : State) : (replyRefused a r x s).pins = s.pins := (replyRefused_only a r x s).pins
@[simp] theorem replyRefused_now (a : Address) (r : Req) (x : Reason) (s : State) : (replyRefused a r x s).now = s.now := (replyRefused_only a r x s).now
@[simp] theorem replyRefused_lane (a : Address) (r : Req) (x : Reason) (s : State) : (replyRefused a r x s).lane = s.lane := (replyRefused_only a r x s).lane
@[simp] theorem replyRefused_bus (a : Address) (r : Req) (x : Reason) (s : State) : (replyRefused a r x s).bus = s.bus := (replyRefused_only a r x s).bus
@[simp] theorem replyRefused_attention (a : Address) (r : Req) (x : Reason) (s : State) : (replyRefused a r x s).attention = s.attention := (replyRefused_only a r x s).attention
@[simp] theorem replyRefused_scan (a : Address) (r : Req) (x : Reason) (s : State) : (replyRefused a r x s).scan = s.scan := (replyRefused_only a r x s).scan
@[simp] theorem replyRefused_cache (a : Address) (r : Req) (x : Reason) (s : State) : (replyRefused a r x s).cache = s.cache := (replyRefused_only a r x s).cache
@[simp] theorem replyRefused_w0 (a : Address) (r : Req) (x : Reason) (s : State) : (replyRefused a r x s).w0 = s.w0 := (replyRefused_only a r x s).w0
@[simp] theorem replyRefused_w1 (a : Address) (r : Req) (x : Reason) (s : State) : (replyRefused a r x s).w1 = s.w1 := (replyRefused_only a r x s).w1
@[simp] theorem replyRefused_bagging (a : Address) (r : Req) (x : Reason) (s : State) : (replyRefused a r x s).bagging = s.bagging := (replyRefused_only a r x s).bagging
@[simp] theorem replyRefused_sale (a : Address) (r : Req) (x : Reason) (s : State) : (replyRefused a r x s).sale = s.sale := (replyRefused_only a r x s).sale
@[simp] theorem replyRefused_lastSale (a : Address) (r : Req) (x : Reason) (s : State) : (replyRefused a r x s).lastSale = s.lastSale := (replyRefused_only a r x s).lastSale
@[simp] theorem replyRefused_card (a : Address) (r : Req) (x : Reason) (s : State) : (replyRefused a r x s).card = s.card := (replyRefused_only a r x s).card
@[simp] theorem replyRefused_drawer (a : Address) (r : Req) (x : Reason) (s : State) : (replyRefused a r x s).drawer = s.drawer := (replyRefused_only a r x s).drawer
@[simp] theorem replyRefused_composer (a : Address) (r : Req) (x : Reason) (s : State) : (replyRefused a r x s).composer = s.composer := (replyRefused_only a r x s).composer
@[simp] theorem replyRefused_mechanism (a : Address) (r : Req) (x : Reason) (s : State) : (replyRefused a r x s).mechanism = s.mechanism := (replyRefused_only a r x s).mechanism

@[simp] theorem refuseFrame_pending (a : Address) (r : Req) (x : Reason) (s : State) : (refuseFrame a r x s).pending = s.pending := (refuseFrame_only a r x s).pending
@[simp] theorem refuseFrame_pins (a : Address) (r : Req) (x : Reason) (s : State) : (refuseFrame a r x s).pins = s.pins := (refuseFrame_only a r x s).pins
@[simp] theorem refuseFrame_now (a : Address) (r : Req) (x : Reason) (s : State) : (refuseFrame a r x s).now = s.now := (refuseFrame_only a r x s).now
@[simp] theorem refuseFrame_lane (a : Address) (r : Req) (x : Reason) (s : State) : (refuseFrame a r x s).lane = s.lane := (refuseFrame_only a r x s).lane
@[simp] theorem refuseFrame_bus (a : Address) (r : Req) (x : Reason) (s : State) : (refuseFrame a r x s).bus = s.bus := (refuseFrame_only a r x s).bus
@[simp] theorem refuseFrame_attention (a : Address) (r : Req) (x : Reason) (s : State) : (refuseFrame a r x s).attention = s.attention := (refuseFrame_only a r x s).attention
@[simp] theorem refuseFrame_scan (a : Address) (r : Req) (x : Reason) (s : State) : (refuseFrame a r x s).scan = s.scan := (refuseFrame_only a r x s).scan
@[simp] theorem refuseFrame_cache (a : Address) (r : Req) (x : Reason) (s : State) : (refuseFrame a r x s).cache = s.cache := (refuseFrame_only a r x s).cache
@[simp] theorem refuseFrame_w0 (a : Address) (r : Req) (x : Reason) (s : State) : (refuseFrame a r x s).w0 = s.w0 := (refuseFrame_only a r x s).w0
@[simp] theorem refuseFrame_w1 (a : Address) (r : Req) (x : Reason) (s : State) : (refuseFrame a r x s).w1 = s.w1 := (refuseFrame_only a r x s).w1
@[simp] theorem refuseFrame_bagging (a : Address) (r : Req) (x : Reason) (s : State) : (refuseFrame a r x s).bagging = s.bagging := (refuseFrame_only a r x s).bagging
@[simp] theorem refuseFrame_sale (a : Address) (r : Req) (x : Reason) (s : State) : (refuseFrame a r x s).sale = s.sale := (refuseFrame_only a r x s).sale
@[simp] theorem refuseFrame_lastSale (a : Address) (r : Req) (x : Reason) (s : State) : (refuseFrame a r x s).lastSale = s.lastSale := (refuseFrame_only a r x s).lastSale
@[simp] theorem refuseFrame_card (a : Address) (r : Req) (x : Reason) (s : State) : (refuseFrame a r x s).card = s.card := (refuseFrame_only a r x s).card
@[simp] theorem refuseFrame_drawer (a : Address) (r : Req) (x : Reason) (s : State) : (refuseFrame a r x s).drawer = s.drawer := (refuseFrame_only a r x s).drawer
@[simp] theorem refuseFrame_composer (a : Address) (r : Req) (x : Reason) (s : State) : (refuseFrame a r x s).composer = s.composer := (refuseFrame_only a r x s).composer
@[simp] theorem refuseFrame_mechanism (a : Address) (r : Req) (x : Reason) (s : State) : (refuseFrame a r x s).mechanism = s.mechanism := (refuseFrame_only a r x s).mechanism

@[simp] theorem sendLineText_pending (a b : Text) (s : State) : (sendLineText a b s).pending = s.pending := (sendLineText_only a b s).pending
@[simp] theorem sendLineText_pins (a b : Text) (s : State) : (sendLineText a b s).pins = s.pins := (sendLineText_only a b s).pins
@[simp] theorem sendLineText_now (a b : Text) (s : State) : (sendLineText a b s).now = s.now := (sendLineText_only a b s).now
@[simp] theorem sendLineText_link (a b : Text) (s : State) : (sendLineText a b s).link = s.link := (sendLineText_only a b s).link
@[simp] theorem sendLineText_lane (a b : Text) (s : State) : (sendLineText a b s).lane = s.lane := (sendLineText_only a b s).lane
@[simp] theorem sendLineText_attention_current (a b : Text) (s : State) : (sendLineText a b s).attention.current = s.attention.current := (sendLineText_only a b s).attention_current
@[simp] theorem sendLineText_attention_eventDeadline (a b : Text) (s : State) : (sendLineText a b s).attention.eventDeadline = s.attention.eventDeadline := (sendLineText_only a b s).attention_eventDeadline
@[simp] theorem sendLineText_attention_conditions (a b : Text) (s : State) : (sendLineText a b s).attention.conditions = s.attention.conditions := (sendLineText_only a b s).attention_conditions
@[simp] theorem sendLineText_attention_silent (a b : Text) (s : State) : (sendLineText a b s).attention.silent = s.attention.silent := (sendLineText_only a b s).attention_silent
@[simp] theorem sendLineText_attention_causes (a b : Text) (s : State) : (sendLineText a b s).attention.causes = s.attention.causes := (sendLineText_only a b s).attention_causes
@[simp] theorem sendLineText_attention_primary (a b : Text) (s : State) : (sendLineText a b s).attention.primary = s.attention.primary := (sendLineText_only a b s).attention_primary
@[simp] theorem sendLineText_attention_age (a b : Text) (s : State) : (sendLineText a b s).attention.age = s.attention.age := (sendLineText_only a b s).attention_age
@[simp] theorem sendLineText_scan (a b : Text) (s : State) : (sendLineText a b s).scan = s.scan := (sendLineText_only a b s).scan
@[simp] theorem sendLineText_cache (a b : Text) (s : State) : (sendLineText a b s).cache = s.cache := (sendLineText_only a b s).cache
@[simp] theorem sendLineText_w0 (a b : Text) (s : State) : (sendLineText a b s).w0 = s.w0 := (sendLineText_only a b s).w0
@[simp] theorem sendLineText_w1 (a b : Text) (s : State) : (sendLineText a b s).w1 = s.w1 := (sendLineText_only a b s).w1
@[simp] theorem sendLineText_bagging (a b : Text) (s : State) : (sendLineText a b s).bagging = s.bagging := (sendLineText_only a b s).bagging
@[simp] theorem sendLineText_sale (a b : Text) (s : State) : (sendLineText a b s).sale = s.sale := (sendLineText_only a b s).sale
@[simp] theorem sendLineText_lastSale (a b : Text) (s : State) : (sendLineText a b s).lastSale = s.lastSale := (sendLineText_only a b s).lastSale
@[simp] theorem sendLineText_card (a b : Text) (s : State) : (sendLineText a b s).card = s.card := (sendLineText_only a b s).card
@[simp] theorem sendLineText_drawer (a b : Text) (s : State) : (sendLineText a b s).drawer = s.drawer := (sendLineText_only a b s).drawer
@[simp] theorem sendLineText_composer (a b : Text) (s : State) : (sendLineText a b s).composer = s.composer := (sendLineText_only a b s).composer
@[simp] theorem sendLineText_mechanism (a b : Text) (s : State) : (sendLineText a b s).mechanism = s.mechanism := (sendLineText_only a b s).mechanism

@[simp] theorem sendSlot_pending (s : State) : (sendSlot s).pending = s.pending := (sendSlot_only s).pending
@[simp] theorem sendSlot_pins (s : State) : (sendSlot s).pins = s.pins := (sendSlot_only s).pins
@[simp] theorem sendSlot_now (s : State) : (sendSlot s).now = s.now := (sendSlot_only s).now
@[simp] theorem sendSlot_link (s : State) : (sendSlot s).link = s.link := (sendSlot_only s).link
@[simp] theorem sendSlot_lane (s : State) : (sendSlot s).lane = s.lane := (sendSlot_only s).lane
@[simp] theorem sendSlot_attention_current (s : State) : (sendSlot s).attention.current = s.attention.current := (sendSlot_only s).attention_current
@[simp] theorem sendSlot_attention_eventDeadline (s : State) : (sendSlot s).attention.eventDeadline = s.attention.eventDeadline := (sendSlot_only s).attention_eventDeadline
@[simp] theorem sendSlot_attention_conditions (s : State) : (sendSlot s).attention.conditions = s.attention.conditions := (sendSlot_only s).attention_conditions
@[simp] theorem sendSlot_attention_silent (s : State) : (sendSlot s).attention.silent = s.attention.silent := (sendSlot_only s).attention_silent
@[simp] theorem sendSlot_attention_causes (s : State) : (sendSlot s).attention.causes = s.attention.causes := (sendSlot_only s).attention_causes
@[simp] theorem sendSlot_attention_primary (s : State) : (sendSlot s).attention.primary = s.attention.primary := (sendSlot_only s).attention_primary
@[simp] theorem sendSlot_attention_age (s : State) : (sendSlot s).attention.age = s.attention.age := (sendSlot_only s).attention_age
@[simp] theorem sendSlot_scan (s : State) : (sendSlot s).scan = s.scan := (sendSlot_only s).scan
@[simp] theorem sendSlot_cache (s : State) : (sendSlot s).cache = s.cache := (sendSlot_only s).cache
@[simp] theorem sendSlot_w0 (s : State) : (sendSlot s).w0 = s.w0 := (sendSlot_only s).w0
@[simp] theorem sendSlot_w1 (s : State) : (sendSlot s).w1 = s.w1 := (sendSlot_only s).w1
@[simp] theorem sendSlot_bagging (s : State) : (sendSlot s).bagging = s.bagging := (sendSlot_only s).bagging
@[simp] theorem sendSlot_sale (s : State) : (sendSlot s).sale = s.sale := (sendSlot_only s).sale
@[simp] theorem sendSlot_lastSale (s : State) : (sendSlot s).lastSale = s.lastSale := (sendSlot_only s).lastSale
@[simp] theorem sendSlot_card (s : State) : (sendSlot s).card = s.card := (sendSlot_only s).card
@[simp] theorem sendSlot_drawer (s : State) : (sendSlot s).drawer = s.drawer := (sendSlot_only s).drawer
@[simp] theorem sendSlot_composer (s : State) : (sendSlot s).composer = s.composer := (sendSlot_only s).composer
@[simp] theorem sendSlot_mechanism (s : State) : (sendSlot s).mechanism = s.mechanism := (sendSlot_only s).mechanism

@[simp] theorem notifyAttention_pending (s : State) : (notifyAttention s).pending = s.pending := (notifyAttention_only s).pending
@[simp] theorem notifyAttention_pins (s : State) : (notifyAttention s).pins = s.pins := (notifyAttention_only s).pins
@[simp] theorem notifyAttention_now (s : State) : (notifyAttention s).now = s.now := (notifyAttention_only s).now
@[simp] theorem notifyAttention_lane (s : State) : (notifyAttention s).lane = s.lane := (notifyAttention_only s).lane
@[simp] theorem notifyAttention_bus (s : State) : (notifyAttention s).bus = s.bus := (notifyAttention_only s).bus
@[simp] theorem notifyAttention_attention (s : State) : (notifyAttention s).attention = s.attention := (notifyAttention_only s).attention
@[simp] theorem notifyAttention_scan (s : State) : (notifyAttention s).scan = s.scan := (notifyAttention_only s).scan
@[simp] theorem notifyAttention_cache (s : State) : (notifyAttention s).cache = s.cache := (notifyAttention_only s).cache
@[simp] theorem notifyAttention_w0 (s : State) : (notifyAttention s).w0 = s.w0 := (notifyAttention_only s).w0
@[simp] theorem notifyAttention_w1 (s : State) : (notifyAttention s).w1 = s.w1 := (notifyAttention_only s).w1
@[simp] theorem notifyAttention_bagging (s : State) : (notifyAttention s).bagging = s.bagging := (notifyAttention_only s).bagging
@[simp] theorem notifyAttention_sale (s : State) : (notifyAttention s).sale = s.sale := (notifyAttention_only s).sale
@[simp] theorem notifyAttention_lastSale (s : State) : (notifyAttention s).lastSale = s.lastSale := (notifyAttention_only s).lastSale
@[simp] theorem notifyAttention_card (s : State) : (notifyAttention s).card = s.card := (notifyAttention_only s).card
@[simp] theorem notifyAttention_drawer (s : State) : (notifyAttention s).drawer = s.drawer := (notifyAttention_only s).drawer
@[simp] theorem notifyAttention_composer (s : State) : (notifyAttention s).composer = s.composer := (notifyAttention_only s).composer
@[simp] theorem notifyAttention_mechanism (s : State) : (notifyAttention s).mechanism = s.mechanism := (notifyAttention_only s).mechanism

@[simp] theorem raiseCause_pending (c : Cause) (n : Nat) (d : Option Int) (s : State) : (raiseCause c n d s).pending = s.pending := (raiseCause_only c n d s).pending
@[simp] theorem raiseCause_pins (c : Cause) (n : Nat) (d : Option Int) (s : State) : (raiseCause c n d s).pins = s.pins := (raiseCause_only c n d s).pins
@[simp] theorem raiseCause_now (c : Cause) (n : Nat) (d : Option Int) (s : State) : (raiseCause c n d s).now = s.now := (raiseCause_only c n d s).now
@[simp] theorem raiseCause_lane (c : Cause) (n : Nat) (d : Option Int) (s : State) : (raiseCause c n d s).lane = s.lane := (raiseCause_only c n d s).lane
@[simp] theorem raiseCause_attention_current (c : Cause) (n : Nat) (d : Option Int) (s : State) : (raiseCause c n d s).attention.current = s.attention.current := (raiseCause_only c n d s).attention_current
@[simp] theorem raiseCause_attention_eventDeadline (c : Cause) (n : Nat) (d : Option Int) (s : State) : (raiseCause c n d s).attention.eventDeadline = s.attention.eventDeadline := (raiseCause_only c n d s).attention_eventDeadline
@[simp] theorem raiseCause_attention_conditions (c : Cause) (n : Nat) (d : Option Int) (s : State) : (raiseCause c n d s).attention.conditions = s.attention.conditions := (raiseCause_only c n d s).attention_conditions
@[simp] theorem raiseCause_attention_silent (c : Cause) (n : Nat) (d : Option Int) (s : State) : (raiseCause c n d s).attention.silent = s.attention.silent := (raiseCause_only c n d s).attention_silent
@[simp] theorem raiseCause_scan (c : Cause) (n : Nat) (d : Option Int) (s : State) : (raiseCause c n d s).scan = s.scan := (raiseCause_only c n d s).scan
@[simp] theorem raiseCause_cache (c : Cause) (n : Nat) (d : Option Int) (s : State) : (raiseCause c n d s).cache = s.cache := (raiseCause_only c n d s).cache
@[simp] theorem raiseCause_w0 (c : Cause) (n : Nat) (d : Option Int) (s : State) : (raiseCause c n d s).w0 = s.w0 := (raiseCause_only c n d s).w0
@[simp] theorem raiseCause_w1 (c : Cause) (n : Nat) (d : Option Int) (s : State) : (raiseCause c n d s).w1 = s.w1 := (raiseCause_only c n d s).w1
@[simp] theorem raiseCause_bagging (c : Cause) (n : Nat) (d : Option Int) (s : State) : (raiseCause c n d s).bagging = s.bagging := (raiseCause_only c n d s).bagging
@[simp] theorem raiseCause_sale (c : Cause) (n : Nat) (d : Option Int) (s : State) : (raiseCause c n d s).sale = s.sale := (raiseCause_only c n d s).sale
@[simp] theorem raiseCause_lastSale (c : Cause) (n : Nat) (d : Option Int) (s : State) : (raiseCause c n d s).lastSale = s.lastSale := (raiseCause_only c n d s).lastSale
@[simp] theorem raiseCause_card (c : Cause) (n : Nat) (d : Option Int) (s : State) : (raiseCause c n d s).card = s.card := (raiseCause_only c n d s).card
@[simp] theorem raiseCause_drawer (c : Cause) (n : Nat) (d : Option Int) (s : State) : (raiseCause c n d s).drawer = s.drawer := (raiseCause_only c n d s).drawer
@[simp] theorem raiseCause_composer (c : Cause) (n : Nat) (d : Option Int) (s : State) : (raiseCause c n d s).composer = s.composer := (raiseCause_only c n d s).composer
@[simp] theorem raiseCause_mechanism (c : Cause) (n : Nat) (d : Option Int) (s : State) : (raiseCause c n d s).mechanism = s.mechanism := (raiseCause_only c n d s).mechanism

@[simp] theorem removeCause_pending (c : Cause) (s : State) : (removeCause c s).pending = s.pending := (removeCause_only c s).pending
@[simp] theorem removeCause_pins (c : Cause) (s : State) : (removeCause c s).pins = s.pins := (removeCause_only c s).pins
@[simp] theorem removeCause_now (c : Cause) (s : State) : (removeCause c s).now = s.now := (removeCause_only c s).now
@[simp] theorem removeCause_lane (c : Cause) (s : State) : (removeCause c s).lane = s.lane := (removeCause_only c s).lane
@[simp] theorem removeCause_bus (c : Cause) (s : State) : (removeCause c s).bus = s.bus := rfl
@[simp] theorem removeCause_attention_current (c : Cause) (s : State) : (removeCause c s).attention.current = s.attention.current := (removeCause_only c s).attention_current
@[simp] theorem removeCause_attention_eventDeadline (c : Cause) (s : State) : (removeCause c s).attention.eventDeadline = s.attention.eventDeadline := (removeCause_only c s).attention_eventDeadline
@[simp] theorem removeCause_attention_conditions (c : Cause) (s : State) : (removeCause c s).attention.conditions = s.attention.conditions := (removeCause_only c s).attention_conditions
@[simp] theorem removeCause_attention_silent (c : Cause) (s : State) : (removeCause c s).attention.silent = s.attention.silent := (removeCause_only c s).attention_silent
@[simp] theorem removeCause_attention_rest (c : Cause) (s : State) : (removeCause c s).attention.rest = s.attention.rest := rfl
@[simp] theorem removeCause_attention_displayWaiting (c : Cause) (s : State) : (removeCause c s).attention.displayWaiting = s.attention.displayWaiting := rfl
@[simp] theorem removeCause_scan (c : Cause) (s : State) : (removeCause c s).scan = s.scan := (removeCause_only c s).scan
@[simp] theorem removeCause_cache (c : Cause) (s : State) : (removeCause c s).cache = s.cache := (removeCause_only c s).cache
@[simp] theorem removeCause_w0 (c : Cause) (s : State) : (removeCause c s).w0 = s.w0 := (removeCause_only c s).w0
@[simp] theorem removeCause_w1 (c : Cause) (s : State) : (removeCause c s).w1 = s.w1 := (removeCause_only c s).w1
@[simp] theorem removeCause_bagging (c : Cause) (s : State) : (removeCause c s).bagging = s.bagging := (removeCause_only c s).bagging
@[simp] theorem removeCause_sale (c : Cause) (s : State) : (removeCause c s).sale = s.sale := (removeCause_only c s).sale
@[simp] theorem removeCause_lastSale (c : Cause) (s : State) : (removeCause c s).lastSale = s.lastSale := (removeCause_only c s).lastSale
@[simp] theorem removeCause_card (c : Cause) (s : State) : (removeCause c s).card = s.card := (removeCause_only c s).card
@[simp] theorem removeCause_drawer (c : Cause) (s : State) : (removeCause c s).drawer = s.drawer := (removeCause_only c s).drawer
@[simp] theorem removeCause_composer (c : Cause) (s : State) : (removeCause c s).composer = s.composer := (removeCause_only c s).composer
@[simp] theorem removeCause_mechanism (c : Cause) (s : State) : (removeCause c s).mechanism = s.mechanism := (removeCause_only c s).mechanism

@[simp] theorem raisePrompt_pending (p : Prompt) (n : Nat) (d : Option Int) (s : State) : (raisePrompt p n d s).pending = s.pending := (raisePrompt_only p n d s).pending
@[simp] theorem raisePrompt_pins (p : Prompt) (n : Nat) (d : Option Int) (s : State) : (raisePrompt p n d s).pins = s.pins := (raisePrompt_only p n d s).pins
@[simp] theorem raisePrompt_now (p : Prompt) (n : Nat) (d : Option Int) (s : State) : (raisePrompt p n d s).now = s.now := (raisePrompt_only p n d s).now
@[simp] theorem raisePrompt_lane (p : Prompt) (n : Nat) (d : Option Int) (s : State) : (raisePrompt p n d s).lane = s.lane := (raisePrompt_only p n d s).lane
@[simp] theorem raisePrompt_scan (p : Prompt) (n : Nat) (d : Option Int) (s : State) : (raisePrompt p n d s).scan = s.scan := (raisePrompt_only p n d s).scan
@[simp] theorem raisePrompt_cache (p : Prompt) (n : Nat) (d : Option Int) (s : State) : (raisePrompt p n d s).cache = s.cache := (raisePrompt_only p n d s).cache
@[simp] theorem raisePrompt_w0 (p : Prompt) (n : Nat) (d : Option Int) (s : State) : (raisePrompt p n d s).w0 = s.w0 := (raisePrompt_only p n d s).w0
@[simp] theorem raisePrompt_w1 (p : Prompt) (n : Nat) (d : Option Int) (s : State) : (raisePrompt p n d s).w1 = s.w1 := (raisePrompt_only p n d s).w1
@[simp] theorem raisePrompt_bagging (p : Prompt) (n : Nat) (d : Option Int) (s : State) : (raisePrompt p n d s).bagging = s.bagging := (raisePrompt_only p n d s).bagging
@[simp] theorem raisePrompt_sale (p : Prompt) (n : Nat) (d : Option Int) (s : State) : (raisePrompt p n d s).sale = s.sale := (raisePrompt_only p n d s).sale
@[simp] theorem raisePrompt_lastSale (p : Prompt) (n : Nat) (d : Option Int) (s : State) : (raisePrompt p n d s).lastSale = s.lastSale := (raisePrompt_only p n d s).lastSale
@[simp] theorem raisePrompt_card (p : Prompt) (n : Nat) (d : Option Int) (s : State) : (raisePrompt p n d s).card = s.card := (raisePrompt_only p n d s).card
@[simp] theorem raisePrompt_drawer (p : Prompt) (n : Nat) (d : Option Int) (s : State) : (raisePrompt p n d s).drawer = s.drawer := (raisePrompt_only p n d s).drawer
@[simp] theorem raisePrompt_composer (p : Prompt) (n : Nat) (d : Option Int) (s : State) : (raisePrompt p n d s).composer = s.composer := (raisePrompt_only p n d s).composer
@[simp] theorem raisePrompt_mechanism (p : Prompt) (n : Nat) (d : Option Int) (s : State) : (raisePrompt p n d s).mechanism = s.mechanism := (raisePrompt_only p n d s).mechanism

@[simp] theorem raiseSimple_pending (k : PromptKind) (s : State) : (raiseSimple k s).pending = s.pending := (raiseSimple_only k s).pending
@[simp] theorem raiseSimple_pins (k : PromptKind) (s : State) : (raiseSimple k s).pins = s.pins := (raiseSimple_only k s).pins
@[simp] theorem raiseSimple_now (k : PromptKind) (s : State) : (raiseSimple k s).now = s.now := (raiseSimple_only k s).now
@[simp] theorem raiseSimple_lane (k : PromptKind) (s : State) : (raiseSimple k s).lane = s.lane := (raiseSimple_only k s).lane
@[simp] theorem raiseSimple_scan (k : PromptKind) (s : State) : (raiseSimple k s).scan = s.scan := (raiseSimple_only k s).scan
@[simp] theorem raiseSimple_cache (k : PromptKind) (s : State) : (raiseSimple k s).cache = s.cache := (raiseSimple_only k s).cache
@[simp] theorem raiseSimple_w0 (k : PromptKind) (s : State) : (raiseSimple k s).w0 = s.w0 := (raiseSimple_only k s).w0
@[simp] theorem raiseSimple_w1 (k : PromptKind) (s : State) : (raiseSimple k s).w1 = s.w1 := (raiseSimple_only k s).w1
@[simp] theorem raiseSimple_bagging (k : PromptKind) (s : State) : (raiseSimple k s).bagging = s.bagging := (raiseSimple_only k s).bagging
@[simp] theorem raiseSimple_sale (k : PromptKind) (s : State) : (raiseSimple k s).sale = s.sale := (raiseSimple_only k s).sale
@[simp] theorem raiseSimple_lastSale (k : PromptKind) (s : State) : (raiseSimple k s).lastSale = s.lastSale := (raiseSimple_only k s).lastSale
@[simp] theorem raiseSimple_card (k : PromptKind) (s : State) : (raiseSimple k s).card = s.card := (raiseSimple_only k s).card
@[simp] theorem raiseSimple_drawer (k : PromptKind) (s : State) : (raiseSimple k s).drawer = s.drawer := (raiseSimple_only k s).drawer
@[simp] theorem raiseSimple_composer (k : PromptKind) (s : State) : (raiseSimple k s).composer = s.composer := (raiseSimple_only k s).composer
@[simp] theorem raiseSimple_mechanism (k : PromptKind) (s : State) : (raiseSimple k s).mechanism = s.mechanism := (raiseSimple_only k s).mechanism

@[simp] theorem fallBack_pending (s : State) : (fallBack s).pending = s.pending := (fallBack_only s).pending
@[simp] theorem fallBack_pins (s : State) : (fallBack s).pins = s.pins := (fallBack_only s).pins
@[simp] theorem fallBack_now (s : State) : (fallBack s).now = s.now := (fallBack_only s).now
@[simp] theorem fallBack_lane (s : State) : (fallBack s).lane = s.lane := (fallBack_only s).lane
@[simp] theorem fallBack_attention_causes (s : State) : (fallBack s).attention.causes = s.attention.causes := (fallBack_only s).attention_causes
@[simp] theorem fallBack_attention_primary (s : State) : (fallBack s).attention.primary = s.attention.primary := (fallBack_only s).attention_primary
@[simp] theorem fallBack_attention_age (s : State) : (fallBack s).attention.age = s.attention.age := (fallBack_only s).attention_age
@[simp] theorem fallBack_scan (s : State) : (fallBack s).scan = s.scan := (fallBack_only s).scan
@[simp] theorem fallBack_cache (s : State) : (fallBack s).cache = s.cache := (fallBack_only s).cache
@[simp] theorem fallBack_w0 (s : State) : (fallBack s).w0 = s.w0 := (fallBack_only s).w0
@[simp] theorem fallBack_w1 (s : State) : (fallBack s).w1 = s.w1 := (fallBack_only s).w1
@[simp] theorem fallBack_bagging (s : State) : (fallBack s).bagging = s.bagging := (fallBack_only s).bagging
@[simp] theorem fallBack_sale (s : State) : (fallBack s).sale = s.sale := (fallBack_only s).sale
@[simp] theorem fallBack_lastSale (s : State) : (fallBack s).lastSale = s.lastSale := (fallBack_only s).lastSale
@[simp] theorem fallBack_card (s : State) : (fallBack s).card = s.card := (fallBack_only s).card
@[simp] theorem fallBack_drawer (s : State) : (fallBack s).drawer = s.drawer := (fallBack_only s).drawer
@[simp] theorem fallBack_composer (s : State) : (fallBack s).composer = s.composer := (fallBack_only s).composer
@[simp] theorem fallBack_mechanism (s : State) : (fallBack s).mechanism = s.mechanism := (fallBack_only s).mechanism

@[simp] theorem withdrawPrompt_pending (k : PromptKind) (s : State) : (withdrawPrompt k s).pending = s.pending := (withdrawPrompt_only k s).pending
@[simp] theorem withdrawPrompt_pins (k : PromptKind) (s : State) : (withdrawPrompt k s).pins = s.pins := (withdrawPrompt_only k s).pins
@[simp] theorem withdrawPrompt_now (k : PromptKind) (s : State) : (withdrawPrompt k s).now = s.now := (withdrawPrompt_only k s).now
@[simp] theorem withdrawPrompt_lane (k : PromptKind) (s : State) : (withdrawPrompt k s).lane = s.lane := (withdrawPrompt_only k s).lane
@[simp] theorem withdrawPrompt_attention_causes (k : PromptKind) (s : State) : (withdrawPrompt k s).attention.causes = s.attention.causes := (withdrawPrompt_only k s).attention_causes
@[simp] theorem withdrawPrompt_attention_primary (k : PromptKind) (s : State) : (withdrawPrompt k s).attention.primary = s.attention.primary := (withdrawPrompt_only k s).attention_primary
@[simp] theorem withdrawPrompt_attention_age (k : PromptKind) (s : State) : (withdrawPrompt k s).attention.age = s.attention.age := (withdrawPrompt_only k s).attention_age
@[simp] theorem withdrawPrompt_scan (k : PromptKind) (s : State) : (withdrawPrompt k s).scan = s.scan := (withdrawPrompt_only k s).scan
@[simp] theorem withdrawPrompt_cache (k : PromptKind) (s : State) : (withdrawPrompt k s).cache = s.cache := (withdrawPrompt_only k s).cache
@[simp] theorem withdrawPrompt_w0 (k : PromptKind) (s : State) : (withdrawPrompt k s).w0 = s.w0 := (withdrawPrompt_only k s).w0
@[simp] theorem withdrawPrompt_w1 (k : PromptKind) (s : State) : (withdrawPrompt k s).w1 = s.w1 := (withdrawPrompt_only k s).w1
@[simp] theorem withdrawPrompt_bagging (k : PromptKind) (s : State) : (withdrawPrompt k s).bagging = s.bagging := (withdrawPrompt_only k s).bagging
@[simp] theorem withdrawPrompt_sale (k : PromptKind) (s : State) : (withdrawPrompt k s).sale = s.sale := (withdrawPrompt_only k s).sale
@[simp] theorem withdrawPrompt_lastSale (k : PromptKind) (s : State) : (withdrawPrompt k s).lastSale = s.lastSale := (withdrawPrompt_only k s).lastSale
@[simp] theorem withdrawPrompt_card (k : PromptKind) (s : State) : (withdrawPrompt k s).card = s.card := (withdrawPrompt_only k s).card
@[simp] theorem withdrawPrompt_drawer (k : PromptKind) (s : State) : (withdrawPrompt k s).drawer = s.drawer := (withdrawPrompt_only k s).drawer
@[simp] theorem withdrawPrompt_composer (k : PromptKind) (s : State) : (withdrawPrompt k s).composer = s.composer := (withdrawPrompt_only k s).composer
@[simp] theorem withdrawPrompt_mechanism (k : PromptKind) (s : State) : (withdrawPrompt k s).mechanism = s.mechanism := (withdrawPrompt_only k s).mechanism

@[simp] theorem dropEventPrompt_pending (k : PromptKind) (s : State) : (dropEventPrompt k s).pending = s.pending := (dropEventPrompt_only k s).pending
@[simp] theorem dropEventPrompt_pins (k : PromptKind) (s : State) : (dropEventPrompt k s).pins = s.pins := (dropEventPrompt_only k s).pins
@[simp] theorem dropEventPrompt_now (k : PromptKind) (s : State) : (dropEventPrompt k s).now = s.now := (dropEventPrompt_only k s).now
@[simp] theorem dropEventPrompt_lane (k : PromptKind) (s : State) : (dropEventPrompt k s).lane = s.lane := (dropEventPrompt_only k s).lane
@[simp] theorem dropEventPrompt_attention_causes (k : PromptKind) (s : State) : (dropEventPrompt k s).attention.causes = s.attention.causes := (dropEventPrompt_only k s).attention_causes
@[simp] theorem dropEventPrompt_attention_primary (k : PromptKind) (s : State) : (dropEventPrompt k s).attention.primary = s.attention.primary := (dropEventPrompt_only k s).attention_primary
@[simp] theorem dropEventPrompt_attention_age (k : PromptKind) (s : State) : (dropEventPrompt k s).attention.age = s.attention.age := (dropEventPrompt_only k s).attention_age
@[simp] theorem dropEventPrompt_scan (k : PromptKind) (s : State) : (dropEventPrompt k s).scan = s.scan := (dropEventPrompt_only k s).scan
@[simp] theorem dropEventPrompt_cache (k : PromptKind) (s : State) : (dropEventPrompt k s).cache = s.cache := (dropEventPrompt_only k s).cache
@[simp] theorem dropEventPrompt_w0 (k : PromptKind) (s : State) : (dropEventPrompt k s).w0 = s.w0 := (dropEventPrompt_only k s).w0
@[simp] theorem dropEventPrompt_w1 (k : PromptKind) (s : State) : (dropEventPrompt k s).w1 = s.w1 := (dropEventPrompt_only k s).w1
@[simp] theorem dropEventPrompt_bagging (k : PromptKind) (s : State) : (dropEventPrompt k s).bagging = s.bagging := (dropEventPrompt_only k s).bagging
@[simp] theorem dropEventPrompt_sale (k : PromptKind) (s : State) : (dropEventPrompt k s).sale = s.sale := (dropEventPrompt_only k s).sale
@[simp] theorem dropEventPrompt_lastSale (k : PromptKind) (s : State) : (dropEventPrompt k s).lastSale = s.lastSale := (dropEventPrompt_only k s).lastSale
@[simp] theorem dropEventPrompt_card (k : PromptKind) (s : State) : (dropEventPrompt k s).card = s.card := (dropEventPrompt_only k s).card
@[simp] theorem dropEventPrompt_drawer (k : PromptKind) (s : State) : (dropEventPrompt k s).drawer = s.drawer := (dropEventPrompt_only k s).drawer
@[simp] theorem dropEventPrompt_composer (k : PromptKind) (s : State) : (dropEventPrompt k s).composer = s.composer := (dropEventPrompt_only k s).composer
@[simp] theorem dropEventPrompt_mechanism (k : PromptKind) (s : State) : (dropEventPrompt k s).mechanism = s.mechanism := (dropEventPrompt_only k s).mechanism

@[simp] theorem offerReader_pending (m : ReaderOut) (s : State) : (offerReader m s).pending = s.pending := (offerReader_only m s).pending
@[simp] theorem offerReader_pins (m : ReaderOut) (s : State) : (offerReader m s).pins = s.pins := (offerReader_only m s).pins
@[simp] theorem offerReader_now (m : ReaderOut) (s : State) : (offerReader m s).now = s.now := (offerReader_only m s).now
@[simp] theorem offerReader_link (m : ReaderOut) (s : State) : (offerReader m s).link = s.link := (offerReader_only m s).link
@[simp] theorem offerReader_lane (m : ReaderOut) (s : State) : (offerReader m s).lane = s.lane := (offerReader_only m s).lane
@[simp] theorem offerReader_attention (m : ReaderOut) (s : State) : (offerReader m s).attention = s.attention := (offerReader_only m s).attention
@[simp] theorem offerReader_scan (m : ReaderOut) (s : State) : (offerReader m s).scan = s.scan := (offerReader_only m s).scan
@[simp] theorem offerReader_cache (m : ReaderOut) (s : State) : (offerReader m s).cache = s.cache := (offerReader_only m s).cache
@[simp] theorem offerReader_w0 (m : ReaderOut) (s : State) : (offerReader m s).w0 = s.w0 := (offerReader_only m s).w0
@[simp] theorem offerReader_w1 (m : ReaderOut) (s : State) : (offerReader m s).w1 = s.w1 := (offerReader_only m s).w1
@[simp] theorem offerReader_bagging (m : ReaderOut) (s : State) : (offerReader m s).bagging = s.bagging := (offerReader_only m s).bagging
@[simp] theorem offerReader_sale (m : ReaderOut) (s : State) : (offerReader m s).sale = s.sale := (offerReader_only m s).sale
@[simp] theorem offerReader_lastSale (m : ReaderOut) (s : State) : (offerReader m s).lastSale = s.lastSale := (offerReader_only m s).lastSale
@[simp] theorem offerReader_card_session (m : ReaderOut) (s : State) : (offerReader m s).card.session = s.card.session := (offerReader_only m s).card_session
@[simp] theorem offerReader_card_failures (m : ReaderOut) (s : State) : (offerReader m s).card.failures = s.card.failures := (offerReader_only m s).card_failures
@[simp] theorem offerReader_card_attempts (m : ReaderOut) (s : State) : (offerReader m s).card.attempts = s.card.attempts := (offerReader_only m s).card_attempts
@[simp] theorem offerReader_card_issuers (m : ReaderOut) (s : State) : (offerReader m s).card.issuers = s.card.issuers := (offerReader_only m s).card_issuers
@[simp] theorem offerReader_drawer (m : ReaderOut) (s : State) : (offerReader m s).drawer = s.drawer := (offerReader_only m s).drawer
@[simp] theorem offerReader_composer (m : ReaderOut) (s : State) : (offerReader m s).composer = s.composer := (offerReader_only m s).composer
@[simp] theorem offerReader_mechanism (m : ReaderOut) (s : State) : (offerReader m s).mechanism = s.mechanism := (offerReader_only m s).mechanism

@[simp] theorem sendReadiness_pending (s : State) : (sendReadiness s).pending = s.pending := (sendReadiness_only s).pending
@[simp] theorem sendReadiness_pins (s : State) : (sendReadiness s).pins = s.pins := (sendReadiness_only s).pins
@[simp] theorem sendReadiness_now (s : State) : (sendReadiness s).now = s.now := (sendReadiness_only s).now
@[simp] theorem sendReadiness_link (s : State) : (sendReadiness s).link = s.link := (sendReadiness_only s).link
@[simp] theorem sendReadiness_lane (s : State) : (sendReadiness s).lane = s.lane := (sendReadiness_only s).lane
@[simp] theorem sendReadiness_attention (s : State) : (sendReadiness s).attention = s.attention := (sendReadiness_only s).attention
@[simp] theorem sendReadiness_scan (s : State) : (sendReadiness s).scan = s.scan := (sendReadiness_only s).scan
@[simp] theorem sendReadiness_cache (s : State) : (sendReadiness s).cache = s.cache := (sendReadiness_only s).cache
@[simp] theorem sendReadiness_w0 (s : State) : (sendReadiness s).w0 = s.w0 := (sendReadiness_only s).w0
@[simp] theorem sendReadiness_w1 (s : State) : (sendReadiness s).w1 = s.w1 := (sendReadiness_only s).w1
@[simp] theorem sendReadiness_bagging (s : State) : (sendReadiness s).bagging = s.bagging := (sendReadiness_only s).bagging
@[simp] theorem sendReadiness_sale (s : State) : (sendReadiness s).sale = s.sale := (sendReadiness_only s).sale
@[simp] theorem sendReadiness_lastSale (s : State) : (sendReadiness s).lastSale = s.lastSale := (sendReadiness_only s).lastSale
@[simp] theorem sendReadiness_card_session (s : State) : (sendReadiness s).card.session = s.card.session := (sendReadiness_only s).card_session
@[simp] theorem sendReadiness_card_failures (s : State) : (sendReadiness s).card.failures = s.card.failures := (sendReadiness_only s).card_failures
@[simp] theorem sendReadiness_card_attempts (s : State) : (sendReadiness s).card.attempts = s.card.attempts := (sendReadiness_only s).card_attempts
@[simp] theorem sendReadiness_card_issuers (s : State) : (sendReadiness s).card.issuers = s.card.issuers := (sendReadiness_only s).card_issuers
@[simp] theorem sendReadiness_drawer (s : State) : (sendReadiness s).drawer = s.drawer := (sendReadiness_only s).drawer
@[simp] theorem sendReadiness_composer (s : State) : (sendReadiness s).composer = s.composer := (sendReadiness_only s).composer
@[simp] theorem sendReadiness_mechanism (s : State) : (sendReadiness s).mechanism = s.mechanism := (sendReadiness_only s).mechanism

@[simp] theorem refreshReader_pending (s : State) : (refreshReader s).pending = s.pending := (refreshReader_only s).pending
@[simp] theorem refreshReader_pins (s : State) : (refreshReader s).pins = s.pins := (refreshReader_only s).pins
@[simp] theorem refreshReader_now (s : State) : (refreshReader s).now = s.now := (refreshReader_only s).now
@[simp] theorem refreshReader_link (s : State) : (refreshReader s).link = s.link := (refreshReader_only s).link
@[simp] theorem refreshReader_lane (s : State) : (refreshReader s).lane = s.lane := (refreshReader_only s).lane
@[simp] theorem refreshReader_attention (s : State) : (refreshReader s).attention = s.attention := (refreshReader_only s).attention
@[simp] theorem refreshReader_scan (s : State) : (refreshReader s).scan = s.scan := (refreshReader_only s).scan
@[simp] theorem refreshReader_cache (s : State) : (refreshReader s).cache = s.cache := (refreshReader_only s).cache
@[simp] theorem refreshReader_w0 (s : State) : (refreshReader s).w0 = s.w0 := (refreshReader_only s).w0
@[simp] theorem refreshReader_w1 (s : State) : (refreshReader s).w1 = s.w1 := (refreshReader_only s).w1
@[simp] theorem refreshReader_bagging (s : State) : (refreshReader s).bagging = s.bagging := (refreshReader_only s).bagging
@[simp] theorem refreshReader_sale (s : State) : (refreshReader s).sale = s.sale := (refreshReader_only s).sale
@[simp] theorem refreshReader_lastSale (s : State) : (refreshReader s).lastSale = s.lastSale := (refreshReader_only s).lastSale
@[simp] theorem refreshReader_card_session (s : State) : (refreshReader s).card.session = s.card.session := (refreshReader_only s).card_session
@[simp] theorem refreshReader_card_failures (s : State) : (refreshReader s).card.failures = s.card.failures := (refreshReader_only s).card_failures
@[simp] theorem refreshReader_card_attempts (s : State) : (refreshReader s).card.attempts = s.card.attempts := (refreshReader_only s).card_attempts
@[simp] theorem refreshReader_card_issuers (s : State) : (refreshReader s).card.issuers = s.card.issuers := (refreshReader_only s).card_issuers
@[simp] theorem refreshReader_drawer (s : State) : (refreshReader s).drawer = s.drawer := (refreshReader_only s).drawer
@[simp] theorem refreshReader_composer (s : State) : (refreshReader s).composer = s.composer := (refreshReader_only s).composer
@[simp] theorem refreshReader_mechanism (s : State) : (refreshReader s).mechanism = s.mechanism := (refreshReader_only s).mechanism

@[simp] theorem raiseReaderPrompt_pending (k : ReaderPromptKind) (s : State) : (raiseReaderPrompt k s).pending = s.pending := (raiseReaderPrompt_only k s).pending
@[simp] theorem raiseReaderPrompt_pins (k : ReaderPromptKind) (s : State) : (raiseReaderPrompt k s).pins = s.pins := (raiseReaderPrompt_only k s).pins
@[simp] theorem raiseReaderPrompt_now (k : ReaderPromptKind) (s : State) : (raiseReaderPrompt k s).now = s.now := (raiseReaderPrompt_only k s).now
@[simp] theorem raiseReaderPrompt_link (k : ReaderPromptKind) (s : State) : (raiseReaderPrompt k s).link = s.link := (raiseReaderPrompt_only k s).link
@[simp] theorem raiseReaderPrompt_lane (k : ReaderPromptKind) (s : State) : (raiseReaderPrompt k s).lane = s.lane := (raiseReaderPrompt_only k s).lane
@[simp] theorem raiseReaderPrompt_attention (k : ReaderPromptKind) (s : State) : (raiseReaderPrompt k s).attention = s.attention := (raiseReaderPrompt_only k s).attention
@[simp] theorem raiseReaderPrompt_scan (k : ReaderPromptKind) (s : State) : (raiseReaderPrompt k s).scan = s.scan := (raiseReaderPrompt_only k s).scan
@[simp] theorem raiseReaderPrompt_cache (k : ReaderPromptKind) (s : State) : (raiseReaderPrompt k s).cache = s.cache := (raiseReaderPrompt_only k s).cache
@[simp] theorem raiseReaderPrompt_w0 (k : ReaderPromptKind) (s : State) : (raiseReaderPrompt k s).w0 = s.w0 := (raiseReaderPrompt_only k s).w0
@[simp] theorem raiseReaderPrompt_w1 (k : ReaderPromptKind) (s : State) : (raiseReaderPrompt k s).w1 = s.w1 := (raiseReaderPrompt_only k s).w1
@[simp] theorem raiseReaderPrompt_bagging (k : ReaderPromptKind) (s : State) : (raiseReaderPrompt k s).bagging = s.bagging := (raiseReaderPrompt_only k s).bagging
@[simp] theorem raiseReaderPrompt_sale (k : ReaderPromptKind) (s : State) : (raiseReaderPrompt k s).sale = s.sale := (raiseReaderPrompt_only k s).sale
@[simp] theorem raiseReaderPrompt_lastSale (k : ReaderPromptKind) (s : State) : (raiseReaderPrompt k s).lastSale = s.lastSale := (raiseReaderPrompt_only k s).lastSale
@[simp] theorem raiseReaderPrompt_card_session (k : ReaderPromptKind) (s : State) : (raiseReaderPrompt k s).card.session = s.card.session := (raiseReaderPrompt_only k s).card_session
@[simp] theorem raiseReaderPrompt_card_failures (k : ReaderPromptKind) (s : State) : (raiseReaderPrompt k s).card.failures = s.card.failures := (raiseReaderPrompt_only k s).card_failures
@[simp] theorem raiseReaderPrompt_card_attempts (k : ReaderPromptKind) (s : State) : (raiseReaderPrompt k s).card.attempts = s.card.attempts := (raiseReaderPrompt_only k s).card_attempts
@[simp] theorem raiseReaderPrompt_card_issuers (k : ReaderPromptKind) (s : State) : (raiseReaderPrompt k s).card.issuers = s.card.issuers := (raiseReaderPrompt_only k s).card_issuers
@[simp] theorem raiseReaderPrompt_drawer (k : ReaderPromptKind) (s : State) : (raiseReaderPrompt k s).drawer = s.drawer := (raiseReaderPrompt_only k s).drawer
@[simp] theorem raiseReaderPrompt_composer (k : ReaderPromptKind) (s : State) : (raiseReaderPrompt k s).composer = s.composer := (raiseReaderPrompt_only k s).composer
@[simp] theorem raiseReaderPrompt_mechanism (k : ReaderPromptKind) (s : State) : (raiseReaderPrompt k s).mechanism = s.mechanism := (raiseReaderPrompt_only k s).mechanism

@[simp] theorem endReaderPrompt_pending (s : State) : (endReaderPrompt s).pending = s.pending := (endReaderPrompt_only s).pending
@[simp] theorem endReaderPrompt_pins (s : State) : (endReaderPrompt s).pins = s.pins := (endReaderPrompt_only s).pins
@[simp] theorem endReaderPrompt_now (s : State) : (endReaderPrompt s).now = s.now := (endReaderPrompt_only s).now
@[simp] theorem endReaderPrompt_link (s : State) : (endReaderPrompt s).link = s.link := (endReaderPrompt_only s).link
@[simp] theorem endReaderPrompt_lane (s : State) : (endReaderPrompt s).lane = s.lane := (endReaderPrompt_only s).lane
@[simp] theorem endReaderPrompt_attention (s : State) : (endReaderPrompt s).attention = s.attention := (endReaderPrompt_only s).attention
@[simp] theorem endReaderPrompt_scan (s : State) : (endReaderPrompt s).scan = s.scan := (endReaderPrompt_only s).scan
@[simp] theorem endReaderPrompt_cache (s : State) : (endReaderPrompt s).cache = s.cache := (endReaderPrompt_only s).cache
@[simp] theorem endReaderPrompt_w0 (s : State) : (endReaderPrompt s).w0 = s.w0 := (endReaderPrompt_only s).w0
@[simp] theorem endReaderPrompt_w1 (s : State) : (endReaderPrompt s).w1 = s.w1 := (endReaderPrompt_only s).w1
@[simp] theorem endReaderPrompt_bagging (s : State) : (endReaderPrompt s).bagging = s.bagging := (endReaderPrompt_only s).bagging
@[simp] theorem endReaderPrompt_sale (s : State) : (endReaderPrompt s).sale = s.sale := (endReaderPrompt_only s).sale
@[simp] theorem endReaderPrompt_lastSale (s : State) : (endReaderPrompt s).lastSale = s.lastSale := (endReaderPrompt_only s).lastSale
@[simp] theorem endReaderPrompt_card_session (s : State) : (endReaderPrompt s).card.session = s.card.session := (endReaderPrompt_only s).card_session
@[simp] theorem endReaderPrompt_card_failures (s : State) : (endReaderPrompt s).card.failures = s.card.failures := (endReaderPrompt_only s).card_failures
@[simp] theorem endReaderPrompt_card_attempts (s : State) : (endReaderPrompt s).card.attempts = s.card.attempts := (endReaderPrompt_only s).card_attempts
@[simp] theorem endReaderPrompt_card_issuers (s : State) : (endReaderPrompt s).card.issuers = s.card.issuers := (endReaderPrompt_only s).card_issuers
@[simp] theorem endReaderPrompt_drawer (s : State) : (endReaderPrompt s).drawer = s.drawer := (endReaderPrompt_only s).drawer
@[simp] theorem endReaderPrompt_composer (s : State) : (endReaderPrompt s).composer = s.composer := (endReaderPrompt_only s).composer
@[simp] theorem endReaderPrompt_mechanism (s : State) : (endReaderPrompt s).mechanism = s.mechanism := (endReaderPrompt_only s).mechanism

@[simp] theorem sendTone_pending (x : Tone) (s : State) : (sendTone x s).pending = s.pending := (sendTone_only x s).pending
@[simp] theorem sendTone_pins (x : Tone) (s : State) : (sendTone x s).pins = s.pins := (sendTone_only x s).pins
@[simp] theorem sendTone_now (x : Tone) (s : State) : (sendTone x s).now = s.now := (sendTone_only x s).now
@[simp] theorem sendTone_link (x : Tone) (s : State) : (sendTone x s).link = s.link := (sendTone_only x s).link
@[simp] theorem sendTone_lane (x : Tone) (s : State) : (sendTone x s).lane = s.lane := (sendTone_only x s).lane
@[simp] theorem sendTone_attention (x : Tone) (s : State) : (sendTone x s).attention = s.attention := (sendTone_only x s).attention
@[simp] theorem sendTone_scan_queue (x : Tone) (s : State) : (sendTone x s).scan.queue = s.scan.queue := (sendTone_only x s).scan_queue
@[simp] theorem sendTone_scan_lookups (x : Tone) (s : State) : (sendTone x s).scan.lookups = s.scan.lookups := (sendTone_only x s).scan_lookups
@[simp] theorem sendTone_scan_rules (x : Tone) (s : State) : (sendTone x s).scan.rules = s.scan.rules := (sendTone_only x s).scan_rules
@[simp] theorem sendTone_scan_capture (x : Tone) (s : State) : (sendTone x s).scan.capture = s.scan.capture := (sendTone_only x s).scan_capture
@[simp] theorem sendTone_cache (x : Tone) (s : State) : (sendTone x s).cache = s.cache := (sendTone_only x s).cache
@[simp] theorem sendTone_w0 (x : Tone) (s : State) : (sendTone x s).w0 = s.w0 := (sendTone_only x s).w0
@[simp] theorem sendTone_w1 (x : Tone) (s : State) : (sendTone x s).w1 = s.w1 := (sendTone_only x s).w1
@[simp] theorem sendTone_bagging (x : Tone) (s : State) : (sendTone x s).bagging = s.bagging := (sendTone_only x s).bagging
@[simp] theorem sendTone_sale (x : Tone) (s : State) : (sendTone x s).sale = s.sale := (sendTone_only x s).sale
@[simp] theorem sendTone_lastSale (x : Tone) (s : State) : (sendTone x s).lastSale = s.lastSale := (sendTone_only x s).lastSale
@[simp] theorem sendTone_card (x : Tone) (s : State) : (sendTone x s).card = s.card := (sendTone_only x s).card
@[simp] theorem sendTone_drawer (x : Tone) (s : State) : (sendTone x s).drawer = s.drawer := (sendTone_only x s).drawer
@[simp] theorem sendTone_composer (x : Tone) (s : State) : (sendTone x s).composer = s.composer := (sendTone_only x s).composer
@[simp] theorem sendTone_mechanism (x : Tone) (s : State) : (sendTone x s).mechanism = s.mechanism := (sendTone_only x s).mechanism

@[simp] theorem publish_pending (s : State) : (publish s).pending = s.pending := (publish_only s).pending
@[simp] theorem publish_pins (s : State) : (publish s).pins = s.pins := (publish_only s).pins
@[simp] theorem publish_now (s : State) : (publish s).now = s.now := (publish_only s).now
@[simp] theorem publish_link (s : State) : (publish s).link = s.link := (publish_only s).link
@[simp] theorem publish_lane (s : State) : (publish s).lane = s.lane := (publish_only s).lane
@[simp] theorem publish_attention_current (s : State) : (publish s).attention.current = s.attention.current := (publish_only s).attention_current
@[simp] theorem publish_attention_eventDeadline (s : State) : (publish s).attention.eventDeadline = s.attention.eventDeadline := (publish_only s).attention_eventDeadline
@[simp] theorem publish_attention_conditions (s : State) : (publish s).attention.conditions = s.attention.conditions := (publish_only s).attention_conditions
@[simp] theorem publish_attention_silent (s : State) : (publish s).attention.silent = s.attention.silent := (publish_only s).attention_silent
@[simp] theorem publish_attention_causes (s : State) : (publish s).attention.causes = s.attention.causes := (publish_only s).attention_causes
@[simp] theorem publish_attention_primary (s : State) : (publish s).attention.primary = s.attention.primary := (publish_only s).attention_primary
@[simp] theorem publish_attention_age (s : State) : (publish s).attention.age = s.attention.age := (publish_only s).attention_age
@[simp] theorem publish_scan_queue (s : State) : (publish s).scan.queue = s.scan.queue := (publish_only s).scan_queue
@[simp] theorem publish_scan_lookups (s : State) : (publish s).scan.lookups = s.scan.lookups := (publish_only s).scan_lookups
@[simp] theorem publish_scan_rules (s : State) : (publish s).scan.rules = s.scan.rules := (publish_only s).scan_rules
@[simp] theorem publish_scan_capture (s : State) : (publish s).scan.capture = s.scan.capture := (publish_only s).scan_capture
@[simp] theorem publish_cache (s : State) : (publish s).cache = s.cache := (publish_only s).cache
@[simp] theorem publish_w0 (s : State) : (publish s).w0 = s.w0 := (publish_only s).w0
@[simp] theorem publish_w1 (s : State) : (publish s).w1 = s.w1 := (publish_only s).w1
@[simp] theorem publish_bagging (s : State) : (publish s).bagging = s.bagging := (publish_only s).bagging
@[simp] theorem publish_sale (s : State) : (publish s).sale = s.sale := (publish_only s).sale
@[simp] theorem publish_lastSale (s : State) : (publish s).lastSale = s.lastSale := (publish_only s).lastSale
@[simp] theorem publish_card_session (s : State) : (publish s).card.session = s.card.session := (publish_only s).card_session
@[simp] theorem publish_card_failures (s : State) : (publish s).card.failures = s.card.failures := (publish_only s).card_failures
@[simp] theorem publish_card_attempts (s : State) : (publish s).card.attempts = s.card.attempts := (publish_only s).card_attempts
@[simp] theorem publish_card_issuers (s : State) : (publish s).card.issuers = s.card.issuers := (publish_only s).card_issuers
@[simp] theorem publish_drawer (s : State) : (publish s).drawer = s.drawer := (publish_only s).drawer
@[simp] theorem publish_composer (s : State) : (publish s).composer = s.composer := (publish_only s).composer
@[simp] theorem publish_mechanism (s : State) : (publish s).mechanism = s.mechanism := (publish_only s).mechanism

/-! ## Requests (R185, R186, R191) -/

/-- A routed request is marked unanswered and taken by its owner. -/
theorem onRequest_taken {a : Address} (r : Req) (body : State → State) {s : State} (h : s.routes a = true) :
    onRequest a r body s = body (markUnanswered a s) := by
  simp only [State.routes, Bool.and_eq_true, decide_eq_true_eq, Bool.not_eq_true'] at h
  simp [onRequest, h.1, h.2]

/-- A request reaching a busy address is refused with BUSY. -/
theorem onRequest_busy {a : Address} (r : Req) (body : State → State) {s : State}
    (h : s.link.replies.length < Config.waitingReplies) (hb : s.requestBusy a = true) :
    onRequest a r body s = refuseFrame a r .busy s := by
  simp [onRequest, h, hb]

/-- A request completing while 4 replies wait is dropped as an overrun. -/
theorem onRequest_overrun {a : Address} (r : Req) (body : State → State) {s : State}
    (h : Config.waitingReplies ≤ s.link.replies.length) : onRequest a r body s = countBadFrame s := by
  simp [onRequest, Nat.not_lt.mpr h]

/-- Everything that can become of a request. -/
theorem onRequest_cases (a : Address) (r : Req) (body : State → State) (s : State) :
    onRequest a r body s = countBadFrame s ∨ onRequest a r body s = refuseFrame a r .busy s
      ∨ s.routes a = true ∧ onRequest a r body s = body (markUnanswered a s) := by
  unfold onRequest State.routes
  by_cases h : s.link.replies.length < Config.waitingReplies <;> by_cases k : s.requestBusy a = true <;> simp [h, k]

/-- Everything that can become of a reply that is offered: it is queued, it waits, or its owner holds it. -/
theorem offerReply_cases (w : WaitingReply) (s : State) :
    s.replyRoom = true ∧ offerReply w s = queueReply w s
      ∨ s.replyRoom = false ∧ s.mayWait = true
          ∧ offerReply w s = { s with link := { s.link with replies := s.link.replies ++ [w] } }
      ∨ s.replyRoom = false ∧ s.mayWait = false
          ∧ offerReply w s = { s with link := { s.link with deferred := s.link.deferred ++ [w] } } := by
  unfold offerReply
  by_cases h : s.replyRoom = true <;> by_cases k : s.mayWait = true <;> simp [h, k]

/-- With a place free that nothing waits for, the reply of a taken request is queued and its address is free
again. -/
theorem replyDone_room {a : Address} (r : Req) (d : ReplyData) {s : State} (h : s.replyRoom = true) :
    replyDone a r d s = answered ⟨⟨a, r, .done d⟩, true⟩ (pushFrame (.reply ⟨a, r, .done d⟩) s) := by
  simp [replyDone, offerReply, h, queueReply]

/-! ## The selections shown (R38, R96, R163) -/

theorem OnlyShown.gateSelection {s t : State} (h : OnlyShown s t) : t.gateSelection = s.gateSelection := by
  simp [State.gateSelection, State.bagFree, Attention.hold, h.lane, h.scan_queue, h.bagging, h.attention_causes]

theorem OnlyShown.restSelection {s t : State} (h : OnlyShown s t) : t.restSelection = s.restSelection := by
  simp [State.restSelection, State.saleRunning, Attention.hold, h.lane, h.sale, h.attention_causes]

theorem OnlyShown.lightSelection {s t : State} (h : OnlyShown s t) : t.lightSelection = s.lightSelection := by
  simp [State.lightSelection, State.saleRunning, h.lane, h.sale, h.card_session]

@[simp] theorem offerDisplay_rest (m : List Byte) (s : State) : (offerDisplay m s).attention.rest = s.attention.rest := by
  unfold offerDisplay; split
  · rfl
  · split <;> rfl

theorem refreshGate_gate (s : State) : (refreshGate s).scan.gate = s.gateSelection := by
  unfold refreshGate; split
  · next h => exact h.symm
  · dsimp only; split <;> rfl

theorem refreshRest_rest (s : State) : (refreshRest s).attention.rest = s.restSelection := by
  unfold refreshRest; split
  · next h => exact h.symm
  · split
    · simp [sendRest, sendEntry]
    · rfl

@[simp] theorem joinReader_light (m : ReaderOut) (s : State) : (joinReader m s).card.light = s.card.light := by
  unfold joinReader promptSent; split
  · split <;> rfl
  · rfl

@[simp] theorem offerReader_light (m : ReaderOut) (s : State) : (offerReader m s).card.light = s.card.light := by
  unfold offerReader; split
  · rfl
  · split
    · exact joinReader_light m s
    · rfl

theorem refreshReader_light (s : State) : (refreshReader s).card.light = s.lightSelection := by
  unfold refreshReader; dsimp only; split
  · next h => exact h.symm
  · split
    · rfl
    · simp [sendReadiness]

/-- After an event the scanner's gate value is the one selected. -/
theorem publish_gate (s : State) : (publish s).scan.gate = s.gateSelection := by
  unfold publish
  rw [(refreshReader_only _).scan, (refreshRest_only _).scan, refreshGate_gate]

/-- After an event the rest text is the one selected. -/
theorem publish_rest (s : State) : (publish s).attention.rest = s.restSelection := by
  unfold publish
  rw [(refreshReader_only _).attention, refreshRest_rest, (refreshGate_only s).toShown.restSelection]

/-- After an event the reader's light is the one selected. -/
theorem publish_light (s : State) : (publish s).card.light = s.lightSelection := by
  unfold publish
  rw [refreshReader_light, (refreshRest_only _).toShown.lightSelection, (refreshGate_only s).toShown.lightSelection]

/-- Where what is shown is what is selected, the end of an event changes nothing. -/
theorem publish_same {s : State} (hg : s.scan.gate = s.gateSelection) (hr : s.attention.rest = s.restSelection)
    (hl : s.card.light = s.lightSelection) : publish s = s := by
  have h1 : refreshGate s = s := by simp [refreshGate, hg]
  have h2 : refreshRest s = s := by simp [refreshRest, hr]
  have h3 : refreshReader s = s := by simp [refreshReader, hl]
  rw [publish, h1, h2, h3]

/-- Where what is shown is what is selected, a change of the link alone shows nothing new. -/
theorem publish_afterLink {s t : State} (h : OnlyLink s t) (hg : s.scan.gate = s.gateSelection)
    (hr : s.attention.rest = s.restSelection) (hl : s.card.light = s.lightSelection) : publish t = t := by
  have g : t.gateSelection = s.gateSelection := by rw [h]; rfl
  have r : t.restSelection = s.restSelection := by rw [h]; rfl
  have l : t.lightSelection = s.lightSelection := by rw [h]; rfl
  exact publish_same (by rw [g, h.scan, hg]) (by rw [r, h.attention, hr]) (by rw [l, h.card, hl])

/-- A new cause joins the list with its contexts, the rest text follows, and ATTENTION is queued; a listed one changes
nothing. -/
theorem raiseCause_cases (c : Cause) (n : Nat) (d : Option Int) (s : State) :
    c ∈ s.attention.causes ∧ raiseCause c n d s = s
      ∨ c ∉ s.attention.causes ∧ raiseCause c n d s = notifyAttention (refreshRest (listCause c n d s)) := by
  by_cases h : c ∈ s.attention.causes <;> simp [raiseCause, h]

/-- Entering a sale state changes that state and what the display shows. -/
theorem enterSaleState_only (st : SaleState) (s : State) : OnlyDisplay (setSaleState st s) (enterSaleState st s) :=
  refreshRest_only _

/-- A request that has a meaning is one of the requests listed at its address. -/
theorem requestMeaning_listed {c : Instr} {a : Address} {m : State → Outcome} (h : requestMeaning c = some (a, m)) :
    ∃ r, requestName c = some r ∧ r ∈ requestsOf a := by
  cases c <;> simp only [requestMeaning, Option.some.injEq, Prod.mk.injEq, reduceCtorEq] at h
  case channelFrame aux p =>
    obtain ⟨rfl, -⟩ := h
    refine ⟨.channelFrame, rfl, ?_⟩
    match aux with
    | 0 => decide
    | 1 => decide
    | 2 => decide
  all_goals (obtain ⟨rfl, -⟩ := h; exact ⟨_, rfl, by decide⟩)

/-- A pending open that is served pulses, or nothing changes. -/
theorem servePendingOpen_cases (s : State) :
    servePendingOpen s = s ∨ ∃ n o, duePulse s = some (n, o) ∧ servePendingOpen s = beginPulse n o s := by
  unfold servePendingOpen; split
  · next n o h => exact .inr ⟨n, o, h, rfl⟩
  · exact .inl rfl

end Sys2Proof.Machine
end

