-- ==== Sys2Proof/WellFormed.lean ====
section
/-! DEFINITION. The commands that can reach the part: what a frame, a message, a reading or a date can carry.
No meaning rests on these checks; a command outside them is a term that no sender can form. -/

namespace Sys2Proof

/-- Bytes that fit the payload of one lane link frame (R184). -/
def fitsFrame (n : Nat) : Bool := n ≤ 1024

/-- Bytes of a list of texts. -/
def textBytes (ls : List Text) : Nat := (ls.map List.length).sum

/-- A thermistor reading: whole degrees from −40 to 150, or OPEN (R153). -/
def readingOk (t : Option Int) : Bool :=
  match t with
  | some x => decide (-40 ≤ x ∧ x ≤ 150)
  | none => true

/-- A date field of four decimal digits (R189). -/
def dateField (yymm : Nat) : Bool := yymm ≤ 9999

/-- The rows of a glyph, each of its font's width (R142). -/
def glyphDots (font : Option Font) (rows : List Nat) : Bool :=
  match font with
  | some .a => rows.all fun r => r < 2 ^ 12
  | some .b => rows.all fun r => r < 2 ^ 9
  | none => true

/-- Dot lines of 576 dots, as many as a frame carries at 72 bytes each (R143, R184). -/
def dotLines (ls : List DotLine) : Bool := fitsFrame (72 * ls.length) && ls.all fun d => d >>> 576 == 0

/-- A scanner code message, its first byte included, of at most 256 bytes (R28, R182). -/
def codeBytes (code : Text) : Bool := code.length + 1 ≤ 256

/-- A scanner message that is no code message: 1 to 256 bytes, the first not 43h (R28, R182). -/
def otherMessage (m : List Byte) : Bool := m.head? != some 0x43#8 && !m.isEmpty && m.length ≤ 256

/-- The contents of a CARD_DATA message, which fits a peripheral message (R95, R182). -/
def cardFits (d : CardData) : Bool :=
  d.account.length + d.expiry.length + (d.service.getD []).length + (d.issuerData.getD []).length ≤ 256

/-- Whether a command is one that can reach the part. -/
def Instr.wellFormed (c : Instr) : Bool :=
  match c with
  | .powerOnReset p => readingOk p.thermistor
  | .laneResetTakesEffect p => readingOk p.thermistor
  | .thermistorReading t => readingOk t
  | .frameReceived bs _ => !bs.isEmpty
  | .frameDropped bs => !bs.isEmpty
  | .setDate d => dateField d
  | .promptTextWrite _ l1 l2 => fitsFrame (l1.length + l2.length)
  | .rangeRuleWrite _ w => fitsFrame w.pre.length
  | .articleFill code w => fitsFrame (code.length + (match w with | some a => a.description.length | none => 0))
  | .articleUpdate code w => fitsFrame (code.length + (w.description.getD []).length)
  | .articlePin code => fitsFrame code.length
  | .articleUnpin code => fitsFrame code.length
  | .articleProbe code => fitsFrame code.length
  | .articleFlush m => (match m with | .one code => fitsFrame code.length | .unpinned => true | .all => true)
  | .issuerWrite _ w => fitsFrame (w.low.length + w.high.length)
  | .keyedCode code _ => fitsFrame code.length
  | .discount _ t _ => fitsFrame t.length
  | .paymentResult _ _ _ _ code => fitsFrame (code.getD []).length
  | .textJob ls => fitsFrame (textBytes ls)
  | .glyphWrite f _ rows => fitsFrame (2 * rows.length) && glyphDots f rows
  | .formatWrite _ w => fitsFrame w.label.length
  | .templateWrite _ _ ls => dotLines ls
  | .templateLines _ _ ls => dotLines ls
  | .scriptWrite _ ms => fitsFrame ms.length
  | .channelFrame _ p => fitsFrame p.length
  | .codeMessage code => codeBytes code
  | .scannerMessageUplink m => otherMessage m
  | .cardData d => cardFits d
  | .laneReset | .outboundFrameSent | .configWrite _ | .configRead | .laneReady | .promptTextRead _
  | .heatTableWrite _ | .statusRead _ | .slotTableWrite _ | .busRead | .rangeRuleRead | .tallyPush
  | .cacheWorkResumes | .calWrite _ _ _ | .calWriteComplete _ | .calRead _ _ | .zero _ | .tare _ _ | .weightRead _
  | .issuerRead _ | .tillRead | .tillReadZero | .attentionRead | .beginPayment | .resumeScanning | .voidLine _
  | .cashTender _ | .cancelSale | .noReceipt | .saleRead _ _ _ | .skipBag | .clearAttention _ _
  | .drawerNoSale | .cancelConfirmed _ _ | .reprint | .segmentJob _ | .jobList | .glyphRead _ _
  | .formatRead _ | .cutFeedWrite _ | .templateClear | .scriptRead _ | .resumePrint | .printerRead
  | .busCycle _ | .inboundStatusChange _ _ | .handshakeLimitExpiry _ | .abandonLimitReached _
  | .uplinkMessageHandedOn _ | .readerMessageSent | .displayMessageSent | .lookupExpiry _ | .headOffered
  | .toneHoldEnd | .captureTimerExpiry | .captureMotionRun | .converterSample _ _ | .zeroTracking _ _
  | .railFault _ _ | .absenceTimerExpiry _ | .faultRecovery _ _ | .placeTimerExpiry
  | .bagAttentionTimerExpiry | .mismatchPromptTimerExpiry | .mismatchAttentionTimerExpiry
  | .unexpectedTimerExpiry | .cardPresent | .paymentRequest | .cardRemoved | .readError | .keyCancel | .keyOk
  | .unknownReaderMessage | .paymentDeadlineExpiry | .readerPromptExpiry | .pendingOpenPulse
  | .pulseTimerExpiry | .openingTimerExpiry | .switchShowsOpen | .switchShowsClosed | .openTimerExpiry
  | .compositionStart | .ringElementWritten | .dotLineEnd | .cutEnd | .cutJamExpiry _ | .thermistorOpenFault
  | .paperPresentChange _ | .coverClosedChange _ | .paperNearEndChange _ | .eventPromptExpiry
  | .cutterHomeChange _ => true

end Sys2Proof
end

