-- ==== Sys2Proof/Tests/Slice0.lean ====
section
/-! SUPPORT. Tests: values worked out from the manual's text, the ill-formed terms each check of WellFormed
refuses, and for every statement with hypotheses a state and operands that meet them, clause by clause. -/

open Sys2Proof Sys2Proof.Machine

namespace Sys2Proof.Tests

set_option Elab.async false

/-! ## Helpers -/

/-- A state with what is selected shown. -/
def shown (s : State) : State := { s with
  scan := { s.scan with gate := s.gateSelection }
  attention := { s.attention with rest := s.restSelection }
  card := { s.card with light := s.lightSelection } }

theorem shown_published (s : State) : Published (shown s) := ⟨rfl, rfl, rfl⟩

/-- ASCII text. -/
def text (t : String) : Text := t.toList.map fun c => BitVec.ofNat 8 c.toNat

/-- The state after reset with its frames sent. -/
def quiet : State := { State.reset with link := { State.reset.link with queue := [] } }

/-- A lane in READY with no sale. -/
def ready : State := shown { quiet with lane := { quiet.lane with ready := true, written := true } }

/-- A state with the outbound queue holding `q` frames, `w` notices and `r` replies waiting. -/
def crowded (q w r : Nat) (s : State) : State := { s with link := { s.link with
  queue := List.replicate q (.uplink 3 [1]), waiters := List.replicate w (.notice .drawer (.paymentCancel 1 1))
  replies := List.replicate r ⟨⟨.sale, .skipBag, .done .none⟩, true⟩ } }

/-- An ITEM line. -/
def item (n : Nat) (amount : Int) : SaleLine :=
  { number := n, kind := .item, code := some 4011, amount := amount, quantity := some 1, bag := .notRequired }

/-- A READY lane with a sale in a state and with lines. -/
def selling (st : SaleState) (lines : List SaleLine) : State := shown { ready with
  sale := { ready.sale with state := st, number := 5, lines := lines }
  bagging := { ready.bagging with state := .idle, baseline := some 0 } }

/-- An article. -/
def article (k : ArticleKind) : Article := ⟨k, 150, 0, 100, 0, text "PEAR", false, false⟩

/-- An entry of the cache. -/
def cached (c : Code) (pinned dirty : Bool) : CacheEntry := ⟨pinned, c, article .counted, 1, 150, dirty⟩

/-- A state with one set of the cache as given. -/
def withSet (i : Fin 256) (w0 w1 : Option CacheEntry) (s : State) : State := { s with
  cache := { s.cache with sets := s.cache.sets.set i ⟨w0, w1, .zero⟩ } }

theorem no_entry {set : CacheSet} {c : Code} (h : set.way .zero = none ∧ set.way .one = none) :
    ∀ (w : Way) (e : CacheEntry), set.way w = some e → e.code ≠ c := by
  intro w e he
  cases w <;> simp_all

/-- A scan entry. -/
def entry (st : EntryState) : ScanEntry := ⟨text "4011", 4011, .scanner, 1, none, st, some (article .counted), none, none⟩

/-! ## WellFormed refuses -/

theorem wf_refuses_temperature : (Instr.thermistorReading (some 151)).wellFormed = false := by decide +kernel
theorem wf_refuses_reset_reading : (Instr.powerOnReset { State.reset.pins with thermistor := some (-41) }).wellFormed = false := by
  decide +kernel
theorem wf_refuses_lane_reset_reading :
    (Instr.laneResetTakesEffect { State.reset.pins with thermistor := some 151 }).wellFormed = false := by decide +kernel
theorem wf_refuses_no_bytes :
    (Instr.frameReceived [] false).wellFormed = false ∧ (Instr.frameDropped []).wellFormed = false := by decide +kernel
theorem wf_refuses_date : (Instr.setDate 10000).wellFormed = false := by decide +kernel
theorem wf_refuses_long_texts :
    (Instr.promptTextWrite 0 (List.replicate 1024 0) [0]).wellFormed = false
      ∧ (Instr.textJob [List.replicate 1025 0]).wellFormed = false
      ∧ (Instr.keyedCode (List.replicate 1025 0x30) 1).wellFormed = false
      ∧ (Instr.articlePin (List.replicate 1025 0x30)).wellFormed = false
      ∧ (Instr.articleUnpin (List.replicate 1025 0x30)).wellFormed = false
      ∧ (Instr.articleProbe (List.replicate 1025 0x30)).wellFormed = false
      ∧ (Instr.articleFill (List.replicate 1025 0x30) none).wellFormed = false
      ∧ (Instr.articleFlush (.one (List.replicate 1025 0x30))).wellFormed = false
      ∧ (Instr.discount 1 (List.replicate 1025 0x30) none).wellFormed = false
      ∧ (Instr.channelFrame 0 (List.replicate 1025 0)).wellFormed = false := by decide +kernel
theorem wf_refuses_long_fields :
    (Instr.articleUpdate [] ⟨none, some (List.replicate 1025 0x30), none, none, none⟩).wellFormed = false
      ∧ (Instr.rangeRuleWrite 0 ⟨true, List.replicate 1025 0x30, none, none, 0, 0⟩).wellFormed = false
      ∧ (Instr.issuerWrite 0 ⟨true, List.replicate 1025 0x30, [], 12, 19, none⟩).wellFormed = false
      ∧ (Instr.paymentResult 1 1 none 0 (some (List.replicate 1025 0x30))).wellFormed = false
      ∧ (Instr.formatWrite none ⟨true, none, 1, 1, 1, 1, 0, List.replicate 1025 0x30, none⟩).wellFormed = false
      ∧ (Instr.scriptWrite 0 (List.replicate 1025 ⟨0, 0, 1, 1, none, 1⟩)).wellFormed = false := by decide +kernel
theorem wf_refuses_wide_glyphs :
    (Instr.glyphWrite (some .a) 0x41 [4096]).wellFormed = false ∧ (Instr.glyphWrite (some .b) 0x41 [512]).wellFormed = false := by
  decide +kernel
theorem wf_refuses_wide_lines :
    (Instr.templateWrite 0 1 [2 ^ 576]).wellFormed = false ∧ (Instr.templateLines 0 0 [2 ^ 576]).wellFormed = false
      ∧ (Instr.templateLines 0 0 (List.replicate 15 0)).wellFormed = false := by decide +kernel
theorem wf_refuses_scanner_bytes :
    (Instr.codeMessage (List.replicate 256 0x30)).wellFormed = false
      ∧ (Instr.scannerMessageUplink [0x43]).wellFormed = false ∧ (Instr.scannerMessageUplink []).wellFormed = false
      ∧ (Instr.scannerMessageUplink (List.replicate 257 0)).wellFormed = false := by decide +kernel
theorem wf_refuses_long_card :
    (Instr.cardData ⟨some .swipe, List.replicate 257 0x30, [], none, none⟩).wellFormed = false := by decide +kernel

/-! ## The queue and the decoder -/

/-- The table gives no row any bits, so no word spells a command. -/
theorem test_no_word_spells_a_command : decodeTableWord 8 0 = none ∧ ready.withFetchWord 8 0 = ready := ⟨rfl, rfl⟩

/-! ## Witnesses: the step, the invariants, the link -/

theorem witness_IdleStepCountsOneMillisecond :
    quiet.pending = [] ∧ quiet.lane.reset ≠ .due ∧ quiet.cache.waiting = false ∧ requestDue quiet = false
      ∧ uplinkDue quiet = none ∧ readerDue quiet = false ∧ displayDue quiet = false ∧ headDue quiet = false
      ∧ queuedJob quiet = none ∧ quiet.elementReady = false ∧ pendingOpenDue quiet = false := by decide +kernel

/-- A sale with a void, a held pre-read, two causes, an entry in each queue, and a command waiting. -/
def rich : State :=
  let s := selling .opened [{ item 1 150 with voided := true }, item 2 50,
    { number := 3, kind := .void, code := some 4011, amount := -150, target := some 1 }]
  { crowded 16 0 0 s with
    pending := [.statusRead false]
    attention := { s.attention with
      causes := [.ageCheck, .saleFull], primary := some ⟨7, 5, 2, none, false⟩, age := some ⟨5, 2⟩ }
    card := { s.card with session := { s.card.session with
      state := .preRead, full := some ⟨text "9847310020456175", 2708, none, none⟩ } }
    scan := { s.scan with queue := List.replicate 4 { entry .ready with weight := some 0 } }
    composer := { s.composer with jobs := List.replicate 8 ⟨1, .text, .queued, none, none, .text [], false, 0⟩ } }

theorem witness_StepsKeepSelectionsShown :
    Published { ready with pending := [.statusRead false] } ∧ ∃ t, step { ready with pending := [.statusRead false] } = .next t :=
  ⟨⟨rfl, rfl, rfl⟩, _, rfl⟩

theorem witness_StepsKeepCardDataHeld : CardDataHeld rich ∧ ∃ t, step rich = .next t :=
  ⟨by unfold CardDataHeld; decide +kernel, _, rfl⟩

theorem witness_StepsKeepCausesConsistent : CausesConsistent rich ∧ ∃ t, step rich = .next t :=
  ⟨by unfold CausesConsistent; decide +kernel, _, rfl⟩

theorem witness_StepsKeepCapacity : WithinCapacity rich ∧ ∃ t, step rich = .next t :=
  ⟨by unfold WithinCapacity; decide +kernel, _, rfl⟩

theorem witness_StepsKeepSaleConsistent : SaleConsistent rich ∧ ∃ t, step rich = .next t :=
  ⟨by unfold SaleConsistent; decide +kernel, _, rfl⟩

/-- A placement waits behind its report, for the way of its set that a code of the same set does not hold. -/
def placing : State := { ready with
  pending := [.cacheWorkResumes]
  cache := { ready.cache with work := [.report 171 .zero .evict, .place 171 .zero 4011 (article .counted)], waiting := true } }

theorem witness_StepsKeepCachePlaced : CachePlaced placing ∧ ∃ t, step placing = .next t := by
  refine ⟨⟨fun i w e h => ?_, fun done i w c a rest h => ?_⟩, _, rfl⟩
  · have : (placing.cache.sets[i]).way w = none := by
      show ((Vector.replicate 256 (⟨none, none, .zero⟩ : CacheSet))[i.val]).way w = none
      rw [Vector.getElem_replicate]; cases w <;> rfl
    rw [this] at h; cases h
  · have hw : placing.cache.work = [.report 171 .zero .evict, .place 171 .zero 4011 (article .counted)] := rfl
    rw [hw] at h
    match done, h with
    | [], h => simp at h
    | [x], h =>
      simp only [List.cons_append, List.nil_append, List.cons.injEq, CacheWork.place.injEq] at h
      obtain ⟨hx, ⟨rfl, rfl, rfl, rfl⟩, rfl⟩ := h
      refine ⟨by decide, fun y hy => ⟨171, .zero, .evict, ?_⟩, fun e' he => ?_⟩
      · rw [List.mem_singleton] at hy; rw [hy, ← hx]
      · have : (placing.cache.sets[(171 : Fin 256)]).way (Way.other .zero) = none := by decide +kernel
        rw [this] at he; cases he
    | [_, _], h => simp at h
    | _ :: _ :: _ :: _, h => simp at h

theorem witness_ReplyIsQueuedOrWaits :
    (let s := crowded 10 5 0 ready;
      Address.sale ∉ s.link.unanswered ∧ s.link.replies = [] ∧ s.link.queue.length + s.link.waiters.length < 16) ∧
    (let s := crowded 11 5 0 ready;
      Address.sale ∉ s.link.unanswered ∧ 16 ≤ s.link.queue.length + s.link.waiters.length ∧ s.link.replies.length < 4) ∧
    (let s := crowded 0 0 3 ready;
      Address.sale ∉ s.link.unanswered ∧ s.link.replies ≠ [] ∧ s.link.replies.length < 4) ∧
    (let s := crowded 16 0 4 ready;
      Address.sale ∉ s.link.unanswered ∧ 4 ≤ s.link.replies.length) := by decide +kernel

theorem witness_BusyAndOverrunRequests :
    (∃ m, requestMeaning (.statusRead false) = some (.management, m)) ∧ Published ready ∧
    (let s := markUnanswered .management (crowded 0 0 3 ready);
      Published s ∧ s.link.replies.length < 4 ∧ Address.management ∈ s.link.unanswered) ∧
    (let s := { crowded 0 0 3 ready with lane := { ready.lane with reset := .answering } };
      Published s ∧ s.link.replies.length < 4 ∧ s.lane.reset ≠ .none) ∧
    (let w : WaitingReply := ⟨⟨.management, .unnamed 0x70#8, .refused .unknown⟩, false⟩;
      let s := { ready with link := { ready.link with replies := [w] } };
      Published s ∧ s.link.replies.length < 4 ∧ ∃ w ∈ s.link.replies, w.reply.address = .management) ∧
    (let s := crowded 0 0 4 ready;
      Published s ∧ 4 ≤ s.link.replies.length) :=
  ⟨⟨_, rfl⟩, ⟨rfl, rfl, rfl⟩, ⟨⟨rfl, rfl, rfl⟩, by decide +kernel, by decide +kernel⟩,
    ⟨⟨rfl, rfl, rfl⟩, by decide +kernel, by decide +kernel⟩, ⟨⟨rfl, rfl, rfl⟩, by decide +kernel, _, .head _, rfl⟩,
    ⟨rfl, rfl, rfl⟩, by decide +kernel⟩

/-- No request has a KIND of 80h or above. -/
theorem kind_below (r : Req) (h : ∀ k, r ≠ .unnamed k) : r.kind ≠ 0x80#8 := by
  have narrow : ∀ x : BitVec 7, x.setWidth 8 ≠ 0x80#8 := by decide +kernel
  cases r
  case unnamed k => exact absurd rfl (h k)
  case channelFrame => decide
  all_goals exact narrow _

theorem witness_SaleAddressWhileUnconfigured :
    ((crowded 0 0 3 ready).link.replies.length < 4 ∧ ∀ r ∈ requestsOf .sale, r.kind ≠ 0x80#8) ∧
    ((∃ m, requestMeaning .skipBag = some (.sale, m)) ∧ Published quiet ∧ quiet.lane.ready = false ∧ quiet.routes .sale = true) ∧
    quiet.bus.channels[(0 : ChannelId)].complete = [] :=
  ⟨⟨by decide +kernel, fun r hr => kind_below r (by rintro k rfl; revert hr; simp [requestsOf])⟩,
    ⟨⟨_, rfl⟩, ⟨by decide +kernel, by decide +kernel, by decide +kernel⟩, by decide +kernel, by decide +kernel⟩, by decide +kernel⟩

theorem witness_OldestFrameSent :
    (let f : Frame := .reply ⟨.management, .laneReset, .done .none⟩;
      let s := { quiet with lane := { quiet.lane with reset := .answering }, link := { quiet.link with queue := [f] } };
      s.link.queue = f :: [] ∧ s.link.queue.length ≤ 16 ∧ s.lane.reset = .answering) ∧
    (let f : Frame := .reply ⟨.sale, .channelFrame, .refused .stale⟩;
      let s := { quiet with link := { quiet.link with queue := f :: [.notice (.paymentCancel 1 1)] } };
      s.link.queue = f :: [.notice (.paymentCancel 1 1)] ∧ s.link.queue.length ≤ 16 ∧ s.lane.reset ≠ .answering) ∧
    (let s := crowded 16 8 1 ready;
      s.link.queue = .uplink 3 [1] :: List.replicate 15 (.uplink 3 [1]) ∧ s.link.queue.length ≤ 16 ∧ s.lane.reset = .none
        ∧ s.link.replies = ⟨⟨.sale, .skipBag, .done .none⟩, true⟩ :: []) ∧
    (let s := crowded 16 1 0 ready;
      s.link.queue.length ≤ 16 ∧ s.lane.reset = .none ∧ s.link.replies = []
        ∧ s.link.waiters = .notice .drawer (.paymentCancel 1 1) :: []) ∧
    (let s := crowded 1 0 0 ready;
      s.link.queue = .uplink 3 [1] :: [] ∧ s.lane.reset = .none ∧ s.link.replies = [] ∧ s.link.waiters = []) := by
  decide +kernel

/-- A frame to an address that is listed but whose request another address takes has no meaning there. -/
theorem test_channel_frame_meaning : ∃ m, requestMeaning (withSeal true (.channelFrame 2 [7])) = some (addressOf 0x14#8, m) :=
  ⟨_, rfl⟩

/-- A slot table with one assigned slot. -/
def slotted (n : Nat) (x : Slot) (s : State) : State := { s with
  bus := { s.bus with slots := (Vector.replicate 16 .unused).setIfInBounds n x } }

theorem witness_FramesReceivedAndDropped :
    quiet.link.phase = .hunt ∧ (List.replicate 1024 (0xA5#8)).length ≤ 1024
      ∧ contentOf (addressOf 0x10#8) 0x10#8 0x7F#8 [] = .unknownKind ∧ contentOf (addressOf 0x14#8) 0x14#8 0x01#8 [] = .unknownKind
      ∧ (crowded 0 0 3 quiet).link.replies.length < 4 ∧ ¬ (crowded 0 0 4 quiet).link.replies.length < 4
      ∧ contentOf (addressOf 0x14#8) 0x14#8 0x00#8 [7] = .request (.channelFrame 2 [7])
      ∧ 0x14#8 = 0x12#8 + BitVec.ofNat 8 (2 : Fin 3).val
      ∧ (markUnanswered .channel4 quiet).link.unanswered = [.channel4]
      ∧ quiet.routes .channel4 = true ∧ quiet.bus.channels[(4 : ChannelId)].present = false
      ∧ (let s := slotted 15 (.assigned 4 .data) quiet;
        let c : Channel := { s.bus.channels[(4 : ChannelId)] with present := true, transmit := List.replicate 3 (.bytes [1]) };
        let t := { s with bus := { s.bus with channels := s.bus.channels.set 4 c } };
        t.routes .channel4 = true ∧ t.link.phase = .hunt ∧ t.bus.channels[(4 : ChannelId)].present = true
          ∧ (∃ i : Fin 16, t.bus.slots[i] = .assigned 4 .data) ∧ t.bus.channels[(4 : ChannelId)].transmit.length < 4)
      ∧ (List.replicate 256 (0#8)).length ≤ 256 ∧ 256 < (List.replicate 257 (0#8)).length
      ∧ 0x00#8 ++ 0x00#8 ≠ frameCheck [0x12#8, 0x00#8] ∧ 1024 < (0x04#8 ++ 0x01#8).toNat
      ∧ [0x12#8] <+: [0x12#8, 0x00#8] := by decide +kernel

/-! ## Witnesses: lane management -/

theorem witness_ReadsAnswerAndChangeNothing : ready.routes .management = true ∧ ready.routes .print = true := by
  decide +kernel

/-- A configuration write with every number past its range. -/
def configW : ConfigWrite := {
  decimals := 2, separator := 0x7E#8, drawerPolicy := some .onChangeDue, pulseLength := 0, openLimit := 999
  closeBeforeNext := some false, bagPct := 0, tMin := 999, unexpected := 0, placeLimit := 0, bagAttentionLimit := 0
  mismatchPromptLimit := 0, mismatchAttentionLimit := 0, skipLimit := 10, lookupLimit := 0, captureLimit := 0
  paymentLimit := 0, promptsEnabled := some true, merchantCopy := some true, cardFailureLimit := 0
  requiredChannels := [4, 0, 4], handshakeLimit := 0 }

theorem witness_ConfigWriteClampsOrRefuses :
    (let s := selling .opened []; s.routes .management = true ∧ s.sale.state ≠ .idle) ∧
    (ready.routes .management = true ∧ ready.sale.state = .idle
      ∧ ¬ (configW.decimals = 1 ∨ ∀ ch ∈ { configW with requiredChannels := [5] }.requiredChannels, ch ≤ 4)) ∧
    ((configW.decimals = 0 ∨ configW.decimals = 2 ∨ configW.decimals = 3) ∧ configW.drawerPolicy.isSome = true
      ∧ configW.closeBeforeNext.isSome = true ∧ configW.promptsEnabled.isSome = true ∧ configW.merchantCopy.isSome = true
      ∧ (0x20#8 ≤ configW.separator ∧ configW.separator ≤ 0x7E#8) ∧ ∀ ch ∈ configW.requiredChannels, ch ≤ 4) := by
  decide +kernel

theorem witness_DateTextsAndHeatTables :
    ready.routes .management = true ∧ Published ready ∧ (15 < 16 ∧ (List.replicate 20 (0x41#8)).length ≤ 20)
      ∧ 20 < (List.replicate 21 (0x41#8)).length
      ∧ ready.mechanism.inProgress = none ∧ ready.mechanism.state ≠ .printing
      ∧ ((Config.heatDefaults.thresholds.map fun t => max (-40) (min 150 t)).toList.Pairwise (· < ·))
      ∧ ¬ (((Vector.replicate 7 (151 : Int)).map fun t => max (-40) (min 150 t)).toList.Pairwise (· < ·)) :=
  ⟨by decide +kernel, shown_published _, by decide, by decide, by decide +kernel, by decide +kernel, by decide +kernel, by decide +kernel⟩

/-- A lane before LANE_READY, with channel 0 on a slot. -/
def configured : State := shown { quiet with
  lane := { quiet.lane with written := true }
  bus := { quiet.bus with slots := quiet.bus.slots.set 15 (.assigned 0 .status) } }

theorem witness_LaneReadyOpensTheLane :
    (ready.routes .management = true ∧ Published ready ∧ ready.lane.ready = true) ∧
    (quiet.routes .management = true ∧ quiet.lane.written = false) ∧
    (configured.routes .management = true ∧ Published configured ∧ configured.lane.ready = false
      ∧ configured.lane.written = true ∧ ∃ r, Slot.assigned 0 r ∈ configured.bus.slots.toList) :=
  ⟨⟨by decide +kernel, shown_published _, by decide +kernel⟩, by decide +kernel, by decide +kernel, shown_published _,
    by decide +kernel, by decide +kernel, .status, by decide +kernel⟩

theorem witness_LaneResetTakesEffect :
    ready.routes .management = true ∧
    (let s := { selling .settled [item 1 50] with lane := { ready.lane with reset := .due } };
      s.lane.reset = .due ∧ s.cache.work = [] ∧ s.sale.state = .settled) ∧
    (let n : Frame := .notice (.tallyReport 4011 1 150 .push);
      let s0 := selling .paying [item 1 50, { number := 2, kind := .cardTender, amount := 9, card := some default }];
      let s := { s0 with
        lane := { ready.lane with reset := .due }
        link := { (crowded 0 0 1 ready).link with queue := n :: List.replicate 15 (.notice (.paymentCancel 1 1)) }
        card := { ready.card with session := { ready.card.session with state := .awaitResult, payment := some ⟨41, 2, 1⟩ } } };
      s.lane.reset = .due ∧ s.cache.work = [] ∧ s.cache.waiting = false ∧ Waiter.cacheReport ∉ s.link.waiters
        ∧ s.link.deferred = [] ∧ s.sale.state ≠ .settled ∧ s.bagging.state ≠ .suspended
        ∧ (s.sale.lines.filter fun l => l.kind == .cardTender).length = 1 ∧ s.card.session.state = .awaitResult
        ∧ s.card.session.payment.isSome = true ∧ (List.replicate 14 n).length + s.link.replies.length < 16) := by decide +kernel

/-! ## Witnesses: the bus -/

theorem witness_SlotTableWriteRestartsChannels :
    (ready.routes .management = true ∧ Published ready ∧ ready.lane.ready = true) ∧
    (configured.routes .management = true ∧ Published configured ∧ configured.lane.ready = false) ∧
    (let w : Vector SlotWrite 16 := Vector.replicate 16 (.assigned 4 (some .data)); 4 < (w.toList.filter (· == .assigned 4 (some .data))).length) ∧
    (let w : Vector SlotWrite 16 := (Vector.replicate 16 .unused).set 15 (.assigned 4 (some .status));
      ∀ ch : ChannelId, (w.toList.filter (· == .assigned ch.val (some .status))).length ≤ 1) :=
  ⟨⟨by decide +kernel, shown_published _, by decide +kernel⟩, ⟨by decide +kernel, shown_published _, by decide +kernel⟩,
    by decide +kernel, by decide +kernel⟩

/-- Channel `ch` with a DATA slot and a state of its own. -/
def wired (ch : ChannelId) (c : Channel) (s : State) : State :=
  let s := slotted 15 (.assigned ch .data) s
  { s with bus := { s.bus with channels := s.bus.channels.set ch c } }

/-- A channel that is PRESENT. -/
def alive : Channel := { (State.reset.bus.channels[(3 : ChannelId)]) with present := true, filtered := 1, echo := some true }

theorem witness_MessagesJoinQueuesAndGoOn :
    (let s := wired 4 { alive with transmit := List.replicate 3 (.bytes [1]) } ready;
      s.routes .channel4 = true ∧ (List.replicate 256 (0#8)).length ≤ 256 ∧ 256 < (List.replicate 257 (0#8)).length
        ∧ s.bus.channels[(4 : ChannelId)].present = true ∧ (∃ i : Fin 16, s.bus.slots[i] = .assigned 4 .data)
        ∧ s.bus.channels[(4 : ChannelId)].transmit.length < 4) ∧
    (let s := wired 2 { alive with transmit := List.replicate 4 (.bytes [1]) } ready;
      s.routes .channel2 = true ∧ s.bus.channels[(2 : ChannelId)].present = true ∧ 4 ≤ s.bus.channels[(2 : ChannelId)].transmit.length) ∧
    (ready.routes .channel3 = true ∧ ready.bus.channels[(3 : ChannelId)].present = false) ∧
    (let s := { wired 3 { alive with complete := [[7]] } (crowded 15 0 0 ready) with link := { (crowded 15 0 0 ready).link with waiters := [.uplink 3] } };
      Published s ∧ s.bus.channels[(3 : ChannelId)].complete = [[7]] ∧ s.bus.channels[(3 : ChannelId)].thirdComplete = false
        ∧ s.link.waiters = [.uplink 3] ∧ s.link.queue.length < 16) ∧
    (let s := crowded 15 0 0 ready;
      Published s ∧ (List.replicate 256 (0x44#8)).head? ≠ some 0x43#8 ∧ s.bus.channels[(0 : ChannelId)].complete = []
        ∧ s.bus.channels[(0 : ChannelId)].thirdComplete = false ∧ s.link.waiters = [] ∧ s.link.queue.length < 16) ∧
    (let s0 := wired 0 { alive with complete := [[0x44], 0x43 :: text "4011"] } (crowded 15 0 0 ready);
      let s := { s0 with link := { s0.link with waiters := [.uplink 0] } };
      Published s ∧ s.bus.channels[(0 : ChannelId)].complete = [0x44] :: [0x43 :: text "4011"]
        ∧ s.bus.channels[(0 : ChannelId)].complete = [[0x44], 0x43 :: text "4011"] ∧ s.bus.channels[(0 : ChannelId)].thirdComplete = false
        ∧ [0x44#8].head? ≠ some 0x43#8 ∧ s.link.waiters = [.uplink 0] ∧ s.link.replies = [] ∧ s.link.queue.length < 16) ∧
    (let s := wired 1 { alive with transmit := List.replicate 3 (.reader .ready) } ready;
      { s with card := { s.card with waiting := [.prompt [1] [2]], prompt := some ⟨.tryCardAgain, none⟩ } }.card.waiting = .prompt [1] [2] :: []
        ∧ s.bus.channels[(1 : ChannelId)].present = true ∧ (∃ i : Fin 16, s.bus.slots[i] = .assigned 1 .data)
        ∧ s.bus.channels[(1 : ChannelId)].transmit.length < 4) ∧
    (let s := wired 2 alive ready;
      { s with attention := { s.attention with displayWaiting := some [0x54] } }.attention.displayWaiting = some [0x54]
        ∧ s.bus.channels[(2 : ChannelId)].present = true ∧ (∃ i : Fin 16, s.bus.slots[i] = .assigned 2 .data)
        ∧ s.bus.channels[(2 : ChannelId)].transmit.length < 4) :=
  ⟨by decide +kernel, by decide +kernel, by decide +kernel, ⟨⟨rfl, rfl, rfl⟩, by decide +kernel⟩,
    ⟨⟨rfl, rfl, rfl⟩, by decide +kernel⟩, ⟨⟨rfl, rfl, rfl⟩, by decide +kernel⟩, by decide +kernel, by decide +kernel⟩

theorem witness_InboundStatusChangesPresence :
    (let s := crowded 16 8 0 (slotted 15 (.assigned 4 .status) (wired 4 alive (selling .opened [])));
      s.bus.channels[(4 : ChannelId)].filtered ≠ 0 ∧ FewWaiting s ∧ s.bus.channels[(4 : ChannelId)].present = true
        ∧ ∃ i : Fin 16, s.bus.slots[i] = .assigned 4 .status) ∧
    (let s := slotted 0 (.assigned 0 .status) ready;
      s.bus.channels[(0 : ChannelId)].filtered ≠ 15 ∧ FewWaiting s ∧ ∃ i : Fin 16, s.bus.slots[i] = .assigned 0 .status) ∧
    (∀ i : Fin 16, ready.bus.slots[i] ≠ .assigned 0 .status) := by
  unfold FewWaiting; decide +kernel

theorem witness_BusCycleSendsAndFiltersStatus :
    let s := slotted 15 (.assigned 4 .status) ready
    (∀ (i : Fin 16) (ch : ChannelId), s.bus.slots[i] ≠ .assigned ch .data) ∧ s.bus.slots[(0 : Fin 16)] = .unused
      ∧ (∀ j : Fin 16, s.bus.slots[j] = .assigned 4 .status ↔ j = 15) := by decide +kernel

/-- A channel 4 with the DATA slots 2 and 9. -/
def grouped (c : Channel) (s : State) : State := { s with bus := { s.bus with
  slots := ((Vector.replicate 16 .unused).setIfInBounds 2 (.assigned 4 .data)).setIfInBounds 9 (.assigned 4 .data)
  channels := s.bus.channels.set 4 c } }

/-- Up slots with the bytes 0 and 9 in the slots 2 and 9: L, phase and echo as given. -/
def upSlots (valid last phase echo refuse : Bool) : Vector SlotSignal 16 := Vector.ofFn fun i =>
  if i = 2 then ⟨0, valid, false, phase, echo, refuse⟩ else ⟨9, valid && last, last, false, false, false⟩

theorem witness_BusCycleHandsBytesOver :
    (∀ c, Published (grouped c ready) ∧ ([2, 9] : List (Fin 16)).Pairwise (· < ·) ∧ ([2, 9] : List (Fin 16)).head? = some 2
      ∧ ([2, 9] : List (Fin 16)).getLast? = some 9
      ∧ ∀ i : Fin 16, (grouped c ready).bus.slots[i] = if i ∈ ([2, 9] : List (Fin 16)) then .assigned 4 .data else .unused) ∧
    (let c := { alive with transmit := [.bytes [1, 2, 3]], abandons := 1 };
      (grouped c ready).bus.channels[(4 : ChannelId)] = c ∧ c.transmit = .bytes [1, 2, 3] :: [] ∧ [1#8, 2, 3].drop c.offset ≠ []
        ∧ c.echo = some (upSlots false false true true true)[(2 : Fin 16)].phase ∧ c.abandons < 2 ∧ c.presented = none
        ∧ c.abortOwed = false ∧ c.present = true) ∧
    (let c := { alive with transmit := [.bytes [1, 2, 3]], offset := 2, presented := some (.data [3] true), cycles := 49 };
      c.presented = some (.data (([1#8, 2, 3].drop c.offset).take 2) (decide (([1#8, 2, 3].drop c.offset).length ≤ 2)))
        ∧ c.abandons < 2 ∧ ready.lane.config.handshakeLimit ≤ c.cycles + 1) ∧
    (let c := { alive with abortOwed := true }; c.presented = none ∧ c.abortOwed = true ∧ c.present = true ∧ c.echo = some true) ∧
    (let c := { alive with presented := some .abort }; c.presented = some .abort ∧ c.cycles + 1 < ready.lane.config.handshakeLimit) ∧
    (alive.presented = none ∧ alive.abortOwed = false ∧ alive.transmit = [] ∧ alive.echo = some true ∧ alive.echo = some (!false)
      ∧ { alive with echo := none }.echo = none) ∧
    (let up := upSlots true true false false false; let c := { alive with assembling := List.replicate 254 0 };
      let valid := ([2, 9] : List (Fin 16)).filter fun i => up[i].valid;
      valid ≠ [] ∧ (∃ i ∈ valid, up[i].last = true) ∧ c.thirdComplete = false ∧ c.complete = []
        ∧ (c.assembling ++ valid.map fun i => up[i].byte).length ≤ 256 ∧ c.present = true
        ∧ (crowded 15 0 0 ready).link.waiters = [] ∧ (crowded 15 0 0 ready).link.queue.length < 16
        ∧ Published (grouped c (crowded 15 0 0 ready))
        ∧ 256 < (({ c with assembling := List.replicate 255 0 } : Channel).assembling ++ valid.map fun i => up[i].byte).length
        ∧ ({ c with thirdComplete := true } : Channel).thirdComplete = true
        ∧ ({ c with complete := [[1], [2]] } : Channel).complete.length = 2
        ∧ .uplink 4 ∈ ({ ready with link := { ready.link with waiters := [.uplink 4] } } : State).link.waiters) ∧
    (let up := upSlots true false false false false;
      let valid := ([2, 9] : List (Fin 16)).filter fun i => up[i].valid;
      valid ≠ [] ∧ ∀ i ∈ valid, up[i].last = false) ∧
    (([2, 9] : List (Fin 16)).filter (fun i => (upSlots false true false false false)[i].valid) = []
      ∧ (upSlots false true false false false)[(9 : Fin 16)].last = true
      ∧ ∀ i ∈ ([2, 9] : List (Fin 16)), (upSlots false false false false false)[i].last = false) :=
  ⟨fun _ => ⟨⟨rfl, rfl, rfl⟩, by decide, rfl, rfl, (by decide +kernel :
    ∀ i : Fin 16, (grouped alive ready).bus.slots[i] = if i ∈ ([2, 9] : List (Fin 16)) then .assigned 4 .data else .unused)⟩,
    by decide +kernel, by decide +kernel, by decide +kernel, by decide +kernel,
    by decide +kernel, ⟨by decide +kernel, by decide +kernel, rfl, rfl, by decide +kernel, rfl, rfl, by decide +kernel,
      ⟨rfl, rfl, rfl⟩, by decide +kernel⟩, by decide +kernel, by decide +kernel⟩

theorem witness_AbandonsMakeAChannelAbsent :
    (let s := wired 3 { alive with presented := some (.data [9] true), abandons := 1 } ready;
      Published s ∧ s.bus.channels[(3 : ChannelId)].presented = some (.data [9] true) ∧ s.bus.channels[(3 : ChannelId)].abandons < 2) ∧
    (let s := wired 3 { alive with presented := some .abort } ready;
      Published s ∧ s.bus.channels[(3 : ChannelId)].presented = some .abort) ∧
    (Published ready ∧ ready.bus.channels[(0 : ChannelId)].presented = none) ∧
    (let s := crowded 16 8 0 (wired 0 { alive with transmit := [.bytes [9]], abandons := 2, presented := some (.data [9] true) } (selling .paying []));
      Published s ∧ FewWaiting s ∧ s.bus.channels[(0 : ChannelId)].present = true ∧ s.bus.channels[(0 : ChannelId)].abandons = 2
        ∧ s.bus.channels[(0 : ChannelId)].transmit ≠ [] ∧ s.bus.channels[(0 : ChannelId)].presented = some (.data [9] true)) :=
  ⟨⟨⟨rfl, rfl, rfl⟩, by decide +kernel⟩, ⟨⟨rfl, rfl, rfl⟩, by decide +kernel⟩, ⟨⟨rfl, rfl, rfl⟩, by decide +kernel⟩,
    ⟨rfl, rfl, rfl⟩, by unfold FewWaiting; decide +kernel⟩

/-! ## Witnesses: scan intake and the cache -/

/-- A range rule write that embeds a weight in the last digits of 14. -/
def ruleW : RuleWrite := ⟨true, text "234567", some .l14, some .embedWeight, 10, 5⟩

/-- An issuer write with both prefixes equal and both lengths past their ranges. -/
def issuerW : IssuerWrite := ⟨true, text "984731", text "984731", 0, 99, some .debit⟩

theorem witness_RuleAndIssuerWrites :
    (ready.routes .management = true ∧ Published ready ∧ ready.cache.work = [] ∧ ready.cache.waiting = false ∧ ready.sale.state = .idle
      ∧ ready.link.waiters = [] ∧ ready.link.queue.length + 1 ≤ 16) ∧
    (let s := selling .opened []; s.routes .management = true ∧ s.cache.work = [] ∧ s.cache.waiting = false ∧ s.sale.state ≠ .idle) ∧
    (3 < 4 ∧ ruleW.pre ≠ [] ∧ ruleW.pre.length ≤ 6 ∧ Digits ruleW.pre ∧ ruleW.length = some .l14 ∧ ruleW.action = some .embedWeight
      ∧ RuleLength.l14 ≠ .any ∧ ruleW.fieldDigits = 5 ∧ ruleW.pre.length < ruleW.fieldStart ∧ ruleW.fieldStart + ruleW.fieldDigits ≤ 15) ∧
    (63 < 64 ∧ issuerW.low.length = 6 ∧ Digits issuerW.low ∧ issuerW.high.length = 6 ∧ Digits issuerW.high
      ∧ issuerW.route = some .debit ∧ digitsValue issuerW.low ≤ digitsValue issuerW.high
      ∧ max 12 (min 19 issuerW.minLength) ≤ max 12 (min 19 issuerW.maxLength)) ∧
    ({ ruleW with pre := [] }.pre = [] ∧ { issuerW with route := none }.route = none) :=
  ⟨⟨by decide +kernel, shown_published _, by decide +kernel⟩, by decide +kernel, by unfold Digits; decide +kernel,
    by unfold Digits; decide +kernel, by decide⟩

theorem witness_PinAndUnpin :
    (ready.routes .management = true ∧ (171 : Fin 256).val = digitsValue (text "4011") % 256
      ∧ (ready.cache.sets[(171 : Fin 256)]).way .zero = none ∧ (ready.cache.sets[(171 : Fin 256)]).way .one = none) ∧
    (let s := withSet 171 (some (cached 4011 true false)) none ready;
      s.routes .management = true ∧ text "4011" ≠ [] ∧ (text "4011").length ≤ 14 ∧ Digits (text "4011")
        ∧ (s.cache.sets[(171 : Fin 256)]).way .zero = some (cached 4011 true false) ∧ (s.cache.sets[(171 : Fin 256)]).way .one = none) ∧
    (let s := withSet 171 (some (cached 427 true false)) (some (cached 171 true true)) ready;
      s.routes .management = true ∧ Published s ∧ s.cache.work = [] ∧ s.cache.waiting = false
        ∧ (s.cache.sets[(171 : Fin 256)]).way0 = some (cached 427 true false) ∧ (s.cache.sets[(171 : Fin 256)]).way1 = some (cached 171 true true)
        ∧ markedDirect s.scan.rules (digitsValue (text "4011")) = false ∧ s.scan.lookups = []
        ∧ (articleOf ⟨some .counted, 1, 0, 0, 0, [], false, false⟩).isSome = true) :=
  ⟨by decide +kernel, by unfold Digits; decide +kernel, by decide +kernel, ⟨rfl, rfl, rfl⟩, by decide +kernel⟩

theorem witness_UpdateAndProbe :
    (let s := withSet 171 (some (cached 4011 false false)) none ready;
      s.routes .management = true ∧ (171 : Fin 256).val = digitsValue (text "4011") % 256 ∧ Digits (text "4011")
        ∧ (s.cache.sets[(171 : Fin 256)]).way .zero = some (cached 4011 false false) ∧ (s.cache.sets[(171 : Fin 256)]).way .one = none
        ∧ (cached 4011 false false).article.kind = .counted ∧ 9999999 ≤ 9999999 ∧ ¬ 10000000 ≤ 9999999) ∧
    (ready.routes .management = true ∧ (text "12345678901234").length ≤ 14 ∧ Digits (text "12345678901234")
      ∧ 14 < (text "123456789012345").length ∧ ¬ Digits (text "12A")) ∧
    (let s := { ready with scan := { ready.scan with rules := ready.scan.rules.set 3 ⟨true, text "40", .any, .direct, none⟩ } };
      s.scan.rules[(3 : Fin 4)].enabled = true ∧ s.scan.rules[(3 : Fin 4)].pre <+: text "4011"
        ∧ ∀ j : Fin 4, j < 3 → s.scan.rules[j].enabled = false) := by
  unfold Digits; decide +kernel

theorem witness_ArticleFillPlacesAndResolves :
    (ready.routes .management = true ∧ Published ready ∧ ready.cache.work = [] ∧ ready.cache.waiting = false
      ∧ (171 : Fin 256).val = digitsValue (text "4011") % 256 ∧ Digits (text "4011") ∧ 1 ≤ 9999999 ∧ 9999999 ≤ 9999999
      ∧ markedDirect ready.scan.rules 4011 = false ∧ ready.scan.lookups = []
      ∧ (ready.cache.sets[(171 : Fin 256)]).way0 = none ∧ (ready.cache.sets[(171 : Fin 256)]).way .one = none) ∧
    (let s := withSet 171 (some (cached 4011 false true)) none ready;
      s.routes .management = true ∧ (s.cache.sets[(171 : Fin 256)]).way .zero = some (cached 4011 false true)
        ∧ (s.cache.sets[(171 : Fin 256)]).way (Way.other .zero) = none) ∧
    (let s := withSet 171 (some (cached 427 false true)) none ready;
      (s.cache.sets[(171 : Fin 256)]).way0 = some (cached 427 false true) ∧ (s.cache.sets[(171 : Fin 256)]).way1 = none) ∧
    (let s := withSet 171 (some (cached 427 false true)) (some (cached 171 true false)) (crowded 15 0 0 ready);
      s.routes .management = true ∧ (s.cache.sets[(171 : Fin 256)]).way .zero = some (cached 427 false true)
        ∧ (s.cache.sets[(171 : Fin 256)]).way (Way.other .zero) = some (cached 171 true false)
        ∧ (cached 427 false true).pinned = false ∧ (cached 427 false true).code ≠ 4011
        ∧ (s.cache.sets[(171 : Fin 256)]).lru = .zero ∧ s.link.waiters = [] ∧ s.link.queue.length < 16) ∧
    (let e : ScanEntry := { entry .lookupPending with article := none };
      let s : State := { crowded 16 8 0 ready with scan := { ready.scan with
        queue := [e], lookups := [⟨4011, none, true⟩], rules := ready.scan.rules.set 0 ⟨true, text "40", .any, .direct, none⟩ } };
      s.routes .management = true ∧ FewWaiting s ∧ s.scan.queue = [e] ∧ e.state = .lookupPending ∧ e.lookup = 4011 ∧ e.rule = none
        ∧ s.scan.lookups = [⟨4011, none, true⟩] ∧ markedDirect s.scan.rules 4011 = true
        ∧ (s.cache.sets[(171 : Fin 256)]).way .zero = none ∧ (s.cache.sets[(171 : Fin 256)]).way .one = none) :=
  ⟨⟨by decide +kernel, shown_published _, by unfold Digits; decide +kernel⟩, by decide +kernel, by decide +kernel, by decide +kernel,
    by unfold FewWaiting; decide +kernel⟩

/-- An entry waiting on 4011, by a rule. -/
def waiting (rule : Option AppliedRule) : ScanEntry := { entry .lookupPending with article := none, rule := rule }

/-- Two entries waiting on 4011, whose set is full, the record of its way 0 dirty. -/
def listing (e : ScanEntry) (mark : Bool) : State :=
  let s := withSet 171 (some (cached 427 false true)) (some (cached 171 true false)) (crowded 15 0 0 ready)
  shown { s with scan := { s.scan with queue := [e, waiting none], lookups := [⟨4011, some 0, mark⟩] } }

theorem witness_ArticleFillPlacesAndResolves_listed :
    (let s := listing (waiting none) false;
      Published s ∧ s.routes .management = true ∧ s.cache.work = [] ∧ s.cache.waiting = false ∧ s.scan.queue.length ≤ 4
        ∧ (∃ l ∈ s.scan.lookups, l.code = 4011) ∧ ¬ (∃ l ∈ s.scan.lookups, l.code = 4011 ∧ l.noCache = true)
        ∧ markedDirect s.scan.rules 4011 = false ∧ s.scan.queue.head? = some (waiting none) ∧ (waiting none).state ≠ .resolved
        ∧ (s.cache.sets[(171 : Fin 256)]).way .zero = some (cached 427 false true) ∧ (cached 427 false true).pinned = false
        ∧ (s.cache.sets[(171 : Fin 256)]).lru = .zero ∧ s.link.waiters = [] ∧ s.link.queue.length < 16) ∧
    (let e := waiting (some ⟨3, .direct⟩); let s := listing e true;
      Published s ∧ s.routes .management = true ∧ (∃ l ∈ s.scan.lookups, l.code = 4011 ∧ l.noCache = true)
        ∧ e.rule.map AppliedRule.action = some .direct ∧ s.scan.queue.head? = some e ∧ e.lookup = 4011 ∧ e.state = .lookupPending) :=
  ⟨⟨shown_published _, by decide +kernel⟩, shown_published _, by decide +kernel⟩

theorem witness_FlushAndPushReportTallies :
    (let s := withSet 171 (some (cached 4011 true true)) (some (cached 427 false false)) ready;
      s.routes .management = true ∧ Published s ∧ s.cache.work = [] ∧ s.cache.waiting = false
        ∧ s.link.waiters = [] ∧ s.link.queue.length + 1 ≤ 16
        ∧ (text "4011" ≠ [] ∧ (text "4011").length ≤ 14 ∧ Digits (text "4011")
          ∧ ∃ (i : Fin 256) (y : Way) (e : CacheEntry), i.val = digitsValue (text "4011") % 256
            ∧ (s.cache.sets[i]).way y = some e ∧ e.code = digitsValue (text "4011"))) ∧
    (ready.routes .management = true ∧ Published ready ∧ ready.cache.work = [] ∧ ready.cache.waiting = false
      ∧ (ready.cache.sets[(171 : Fin 256)]).way .zero = none ∧ (ready.cache.sets[(171 : Fin 256)]).way .one = none) ∧
    (let s := withSet 171 (some (cached 4011 true true)) none { crowded 15 0 0 ready with
        link := { (crowded 15 0 0 ready).link with waiters := [.cacheReport] }
        cache := { ready.cache with waiting := true, work := [.report 171 .zero .push, .answer .tallyPush (.pushed 1)] } };
      Published s ∧ s.cache.waiting = true ∧ s.cache.work = .report 171 .zero .push :: [.answer .tallyPush (.pushed 1)]
        ∧ (s.cache.sets[(171 : Fin 256)]).way .zero = some (cached 4011 true true) ∧ (cached 4011 true true).dirty = true
        ∧ s.link.waiters = .cacheReport :: [] ∧ s.link.replies = [] ∧ s.link.queue.length + 1 + 0 ≤ 16) ∧
    (let s := withSet 171 (some (cached 4011 true true)) none { crowded 15 0 0 ready with
        link := { (crowded 15 0 0 ready).link with waiters := .cacheReport :: [.notice .drawer (.paymentCancel 1 1)] }
        cache := { ready.cache with waiting := true
                                    work := .report 171 .zero .flush :: [.invalidate 171 .zero, .answer .articleFlush (.flushed 1 1)] } };
      Published s ∧ s.cache.waiting = true
        ∧ s.cache.work = .report 171 .zero .flush :: [.invalidate 171 .zero, .answer .articleFlush (.flushed 1 1)]
        ∧ (s.cache.sets[(171 : Fin 256)]).way .zero = some (cached 4011 true true)
        ∧ s.link.waiters = .cacheReport :: [.notice .drawer (.paymentCancel 1 1)] ∧ s.link.queue.length < 16) :=
  ⟨⟨by decide +kernel, ⟨rfl, rfl, rfl⟩, by decide +kernel, by decide +kernel, by decide +kernel, by decide +kernel,
      by decide +kernel, by decide +kernel, by unfold Digits; decide +kernel, 171, .zero, cached 4011 true true, by decide +kernel⟩,
    ⟨by decide +kernel, shown_published _, by decide +kernel⟩, ⟨⟨rfl, rfl, rfl⟩, by decide +kernel⟩, ⟨rfl, rfl, rfl⟩, by decide +kernel⟩

theorem witness_CodesJoinTheScanQueue :
    (let s := selling .opened []; let code := text "96385074";
      FewWaiting s ∧ s.lane.ready = true ∧ s.routes .sale = true ∧ code ≠ [] ∧ code.length ≤ 14 ∧ Digits code ∧ 1 ≤ 99 ∧ 99 ≤ 99
        ∧ codePasses .scanner code = true ∧ (∀ j : Fin 4, ruleMatches s.scan.rules[j] code = false)
        ∧ s.scan.queue.length < 4 ∧ (∀ e ∈ s.scan.queue, e.state ≠ .resolved) ∧ s.sale.state = .opened ∧ s.scan.lookups = []
        ∧ (50 : Fin 256).val = digitsValue code % 256
        ∧ (s.cache.sets[(50 : Fin 256)]).way .zero = none ∧ (s.cache.sets[(50 : Fin 256)]).way .one = none) ∧
    (let s := withSet 171 none (some (cached 4011 false false)) (selling .opened []);
      FewWaiting s ∧ s.routes .sale = true ∧ codePasses .keyed (text "4011") = true
        ∧ (s.cache.sets[(171 : Fin 256)]).way .one = some (cached 4011 false false)
        ∧ (s.cache.sets[(171 : Fin 256)]).way (Way.other .one) = none ∧ (cached 4011 false false).article.kind = .counted) ∧
    (let s := { ready with sale := { ready.sale with number := 9999 } };
      FewWaiting s ∧ s.sale.state = .idle ∧ s.lane.config.closeBeforeNext = false ∧ s.scan.queue = [] ∧ s.scan.lookups = []
        ∧ (s.cache.sets[(171 : Fin 256)]).way .zero = none ∧ (s.cache.sets[(171 : Fin 256)]).way .one = none) ∧
    (let s := selling .opened []; FewWaiting s ∧ Digits (text "96385073") ∧ codePasses .scanner (text "96385073") = false) ∧
    (let s := selling .settled []; FewWaiting s ∧ s.lane.ready = true ∧ s.routes .sale = true ∧ s.sale.state = .settled) := by
  unfold FewWaiting Digits; decide +kernel

/-- A lane whose scan queue holds entries, with or without a weight capture. -/
def scanning (q : List ScanEntry) (k : Option Capture) (s : State) : State := { s with scan := { s.scan with queue := q, capture := k } }

theorem witness_ScanTimersExpire :
    (let s := scanning (List.replicate 4 { entry .lookupPending with article := none }) none
        { crowded 16 8 0 ready with scan := { ready.scan with lookups := [⟨4011, some 0, false⟩] } };
      FewWaiting s ∧ s.scan.queue.length ≤ 4 ∧ (∀ e ∈ s.scan.queue, e.state ≠ .resolved)
        ∧ (∃ l ∈ s.scan.lookups, l.code = 4011 ∧ l.deadline.isSome = true)) ∧
    { ready with scan := { ready.scan with tone := some .good } }.scan.tone = some .good ∧
    (let s := scanning [entry .capturePending, entry .ready] (some ⟨0, some 0, false, false⟩) (crowded 16 8 0 ready);
      FewWaiting s ∧ s.scan.capture = some ⟨0, some 0, false, false⟩ ∧ s.scan.queue = entry .capturePending :: [entry .ready]
        ∧ (entry .capturePending).state = .capturePending ∧ (∀ x ∈ [entry .ready], x.state ≠ .resolved)
        ∧ (⟨0, some 0, false, false⟩ : Capture).motionSince.isSome = true) := by
  unfold FewWaiting; decide +kernel

theorem witness_HeadBecomesALine :
    (let s := scanning [entry .ready] none (crowded 16 8 0 (selling .opened ((List.range 119).map fun n => item (n + 1) 0)));
      FewWaiting s ∧ s.scan.queue = entry .ready :: [] ∧ (entry .ready).state = .ready ∧ (entry .ready).article = some (article .counted)
        ∧ s.attention.causes = [] ∧ s.bagging.state = .idle ∧ (entry .ready).rule = none ∧ s.sale.lines.length < 120
        ∧ ((entry .ready).quantity * 150 : Int) ≤ 9999999 ∧ itemTotal s.sale.lines + 150 ≤ 99999999) ∧
    (let s := { selling .opened ((List.range 120).map fun n => item (n + 1) 0) with
        bagging := { ready.bagging with state := .off } };
      s.bagging.state = .off ∧ s.attention.causes = [] ∧ ¬ s.sale.lines.length < 120) ∧
    (let e : ScanEntry := { entry .ready with rule := some ⟨3, .embedWeight⟩, embedded := some 0, article := some (article .weighed) };
      e.rule.map AppliedRule.action = some .embedWeight ∧ (article .weighed).kind = .weighed ∧ e.embedded = some 0) ∧
    (let e : ScanEntry := { entry .ready with rule := some ⟨0, .embedPrice⟩, embedded := some 9999999 };
      e.rule.map AppliedRule.action = some .embedPrice ∧ e.embedded = some 9999999) ∧
    (let e : ScanEntry := { entry .ready with weight := some 30000, article := some (article .weighed) };
      e.rule = none ∧ e.weight = some ((30000 : Nat) : Int)) := by
  unfold FewWaiting; decide +kernel

/-! ## Witnesses: weighing -/

/-- A calibration record whose fine units are raw counts. -/
def unity : CalRecord := ⟨0, 1048576, 30000, 2, 2, 5, 20, true, 65535⟩

/-- A channel that weighs: its last samples and averages all at `a`. -/
def weighs (a z : Int) (c : Scale) : Scale := { c with
  work := some unity, faulted := false, history := [a, a], window := List.replicate 5 a, average := a
  zeroStatus := .set, zero := some z, zeroInit := some z, tare := 0, capturePending := false, trackRun := 99, absenceStart := some 0 }

/-- The lane with W0 weighing. -/
def weighing (a z : Int) : State := { ready with w0 := weighs a z ready.w0 }

/-- A sale in OPEN under one range rule, the last, of a prefix. -/
def ruledBy (pre : String) (l : RuleLength) (a : RuleAction) (f : Option EmbedField) : State :=
  let s := selling .opened []
  { s with scan := { s.scan with rules := s.scan.rules.set 3 ⟨true, text pre, l, a, f⟩ } }

theorem witness_CodesJoinTheScanQueue_rules :
    (let c : CacheEntry := { cached 4011 false false with article := article .weighed };
      let s := withSet 171 none (some c) (selling .opened []);
      FewWaiting s ∧ s.routes .sale = true ∧ s.bus.channels[(0 : ChannelId)].complete = []
        ∧ (s.cache.sets[(171 : Fin 256)]).way .one = some c ∧ (s.cache.sets[(171 : Fin 256)]).way (Way.other .one) = none
        ∧ c.article.kind = .weighed ∧ s.scan.queue = [] ∧ (s.w0.state = .fault ∨ s.w0.state = .nozero ∨ s.w0.state = .nocal)
        ∧ (scanning [entry .ready] none s).scan.queue ≠ [] ∧ ¬ ({ s with w0 := (weighing 0 0).w0 }.w0.state ∈ [.fault, .nozero, .nocal])) ∧
    (let s := ruledBy "9" .any .direct none; let code := text "96385074";
      FewWaiting s ∧ codePasses .scanner code = true ∧ ruleMatches s.scan.rules[(3 : Fin 4)] code = true
        ∧ (∀ k : Fin 4, k < 3 → ruleMatches s.scan.rules[k] code = false) ∧ s.scan.rules[(3 : Fin 4)].action = .direct
        ∧ s.scan.queue.length < 4 ∧ s.sale.state = .opened) ∧
    (let s := ruledBy "2" .l8 .embedWeight (some ⟨3, 4⟩); let code := text "21847530";
      FewWaiting s ∧ codePasses .scanner code = true ∧ ruleMatches s.scan.rules[(3 : Fin 4)] code = true
        ∧ (∀ k : Fin 4, k < 3 → ruleMatches s.scan.rules[k] code = false) ∧ s.scan.rules[(3 : Fin 4)].field = some ⟨3, 4⟩
        ∧ digitsValue ((code.drop (3 - 1)).take 4) = 8475 ∧ s.scan.lookups = []
        ∧ digitsValue (code.mapIdx fun x b => if (3 ≤ x + 1 ∧ x + 1 < 3 + 4) ∨ x + 1 = code.length then 0x30#8 else b) = 21000030
        ∧ (94 : Fin 256).val = 21000030 % 256
        ∧ (s.cache.sets[(94 : Fin 256)]).way .zero = none ∧ (s.cache.sets[(94 : Fin 256)]).way .one = none
        ∧ (let t := withSet 94 (some (cached 21000030 false false)) none s;
          (t.cache.sets[(94 : Fin 256)]).way .zero = some (cached 21000030 false false)
            ∧ (t.cache.sets[(94 : Fin 256)]).way (Way.other .zero) = none)
        ∧ digitsValue (((text "21000034").drop (3 - 1)).take 4) = 0 ∧ codePasses .scanner (text "21000034") = true) ∧
    (ruledBy "4" .any .refuse none).scan.rules[(3 : Fin 4)].action = .refuse ∧
    (let s := scanning (List.replicate 4 (entry .ready)) none (selling .opened []);
      FewWaiting s ∧ s.routes .sale = true ∧ 4 ≤ s.scan.queue.length ∧ s.sale.state = .opened) := by
  unfold FewWaiting; decide +kernel

/-- A calibration write with every number past its range. -/
def calW : CalWrite := ⟨some 9000000, some 0, some 0, some 20, some 32, some 99, some 0, .omitted⟩

theorem witness_CalibrationIsWrittenAndRead :
    (let s := weighing 0 0;
      s.routes .management = true ∧ Published s ∧ ¬ (s.sale.state = .opened ∨ s.sale.state = .paying)
        ∧ calW.zeroOffset = some 9000000 ∧ calW.gain = some 0 ∧ calW.division = some 20 ∧ calW.filterLength = some 32
        ∧ calW.zeroTracking ≠ .invalid ∧ { calW with gain := none }.gain.isSome = false) ∧
    (let s := selling .paying []; Published s ∧ s.routes .management = true ∧ s.sale.state = .paying) ∧
    (let s := markUnanswered .management { crowded 13 1 0 ready with w1 := { ready.w1 with writing := some unity } };
      Published s ∧ (s.scale .w1).writing = some unity ∧ s.w0.writing = none ∧ Address.management ∈ s.link.unanswered
        ∧ s.link.replies = [] ∧ s.link.queue.length + s.link.waiters.length < 15) :=
  ⟨⟨by decide +kernel, ⟨rfl, rfl, rfl⟩, by decide +kernel⟩, ⟨shown_published _, by decide +kernel⟩, ⟨rfl, rfl, rfl⟩, by decide +kernel⟩

theorem witness_ZeroTareAndWeight :
    (let s := weighing 6000 0;
      s.routes .management = true ∧ Published s ∧ s.w0.work = some unity ∧ s.w0.average = 6000 ∧ s.w0.state = .stable
        ∧ s.w0.stable unity = true ∧ s.w0.tare = 0 ∧ s.w0.capturePending = false ∧ (6000 - 0 : Int).natAbs ≤ unity.capacity / 5
        ∧ s.w0.gross = some 6000 ∧ (0 : Int) < 6000) ∧
    (let s := weighing 6001 0; s.w0.state = .stable ∧ s.w0.stable unity = true ∧ unity.capacity / 5 < (6001 - 0 : Int).natAbs) ∧
    (let s := weighing 0 0; s.w0.capturePending = false ∧ s.w0.state = .stable ∧ s.w0.gross = some 0 ∧ (0 : Int) ≤ 0) ∧
    (Published ready ∧ ready.routes .management = true ∧ ready.w0.work = none ∧ ready.w0.state ≠ .stable ∧ ready.w0.gross = none) ∧
    (let s := { weighing 0 0 with w0 := { weighs 0 0 ready.w0 with capturePending := true } };
      Published s ∧ s.routes .management = true ∧ s.w0.capturePending = true) :=
  ⟨⟨by decide +kernel, ⟨rfl, rfl, rfl⟩, by decide +kernel⟩, by decide +kernel, by decide +kernel,
    ⟨shown_published _, by decide +kernel⟩, ⟨rfl, rfl, rfl⟩, by decide +kernel⟩

theorem witness_SamplesAreConverted :
    ((1048576 : Int) * 1 = 1 * 1048576) ∧ ((3 : Int) * 524288 = 1 * 1048576 + 524288) ∧ ((-3 : Int) * 524288 = -1 * 1048576 - 524288) := by
  decide

theorem witness_SamplesRunTheChain :
    let s := weighing 100 90
    s.w0.writing = none ∧ s.w0.work = some unity ∧ s.w0.faulted = false ∧ 100#24 ≠ 0x800000#24 ∧ 100#24 ≠ 0x7FFFFF#24
      ∧ 1 ≤ unity.filterLength ∧ s.scan.capture = none ∧ s.w0.zeroStatus = .set ∧ s.w0.zero = some 90 ∧ s.w0.zeroInit = some 90
      ∧ s.w0.tare = 0 ∧ s.w0.capturePending = false ∧ s.w0.trackRun = 99 ∧ unity.zeroTracking = true ∧ s.sale.state = .idle
      ∧ convert unity 100#24 = 100 ∧ ((s.w0.history ++ [100]).drop 1).length = unity.filterLength
      ∧ ((s.w0.window ++ [100]).drop 1).length = unity.windowLength ∧ (∀ x ∈ List.replicate 5 (100 : Int), ∀ y ∈ List.replicate 5 (100 : Int), x - y ≤ unity.motionBand)
      ∧ (100 - 90 : Int).natAbs ≤ 5 * unity.division := by decide +kernel

/-- A PENDING channel whose next sample is its first steady average, below or past a tenth of its capacity. -/
theorem witness_SamplesRunTheChain_initial_zero :
    let s := { scanning [entry .capturePending, entry .ready] (some default) (selling .opened []) with
      w0 := { weighs 100 0 ready.w0 with zeroStatus := .pending, capturePending := true } }
    FewWaiting s ∧ s.w0.zeroStatus = .pending ∧ s.w0.work = some unity ∧ s.w0.faulted = false ∧ s.w0.writing = none
      ∧ (100 : Int).natAbs ≤ unity.capacity ∧ unity.capacity < (30001 : Int).natAbs ∧ s.scan.capture.isSome = true
      ∧ s.scan.queue = entry .capturePending :: [entry .ready] ∧ (∀ x ∈ [entry .ready], x.state ≠ .resolved)
      ∧ convert unity 30001#24 = 30001
      ∧ (weighs 30001 0 ready.w0).window = List.replicate 5 30001 := by
  unfold FewWaiting; decide +kernel

/-- A capture at 20 divisions, below it, past the capacity, and in motion. -/
theorem witness_SamplesRunTheChain_captures :
    let s := { scanning [entry .capturePending, entry .ready] (some default) (selling .opened []) with
      w0 := { weighs 400 0 ready.w0 with capturePending := true } }
    let weight (a : Int) : Int := roundDiv (a - 0 - s.w0.tare) (10 * unity.division) * unity.division
    s.scan.capture = some default ∧ s.scan.queue = entry .capturePending :: [entry .ready] ∧ s.w0.capturePending = true
      ∧ s.w0.zeroStatus = .set ∧ s.w0.zero = some 0 ∧ s.w0.work = some unity
      ∧ 20 * (unity.division : Int) ≤ weight 400 ∧ weight 400 ≤ unity.capacity ∧ weight 389 < 20 * (unity.division : Int)
      ∧ -(200 * unity.division : Int) ≤ 389 - 0 ∧ (default : Capture).placePrompt = false
      ∧ (unity.capacity : Int) < weight 300010 ∧ 300010 - 0 ≤ 10 * (unity.capacity + 9 * unity.division : Int)
      ∧ ¬ (∀ x ∈ [(400 : Int), 400, 400, 400, 500], ∀ y ∈ [(400 : Int), 400, 400, 400, 500], x - y ≤ unity.motionBand) := by
  decide +kernel

theorem witness_ScaleFaultsAndRecovers :
    (let s := crowded 16 8 0 { selling .opened [] with w0 := { weighs 0 0 ready.w0 with railCount := 2 } };
      s.w0.writing = none ∧ s.w0.work = some unity ∧ s.scan.capture = none ∧ FewWaiting s ∧ s.w0.faulted = false
        ∧ s.w0.absenceStart.isSome = true ∧ s.w0.railCount = 2) ∧
    (let s := { scanning [entry .capturePending, entry .ready] (some default) (crowded 16 8 0 (selling .opened [])) with
        w0 := { weighs 0 0 ready.w0 with railCount := 2, capturePending := true } };
      s.w0.writing = none ∧ s.w0.work = some unity ∧ s.scan.capture.isSome = true ∧ FewWaiting s ∧ s.w0.faulted = false
        ∧ s.w0.absenceStart.isSome = true ∧ s.w0.railCount = 2 ∧ s.scan.queue = entry .capturePending :: [entry .ready]
        ∧ (entry .capturePending).state = .capturePending ∧ (∀ y ∈ [entry .ready], y.state ≠ .resolved)
        ∧ s.attention.current = none) ∧
    (let s := { ready with w1 := { weighs 0 0 ready.w1 with faulted := true, recoveryCount := 9 } };
      Published s ∧ s.w1.writing = none ∧ s.w1.work = some unity ∧ s.scan.capture = none ∧ FewWaiting s ∧ s.w1.faulted = true
        ∧ s.w1.absenceStart.isSome = true ∧ s.w1.recoveryCount = 9 ∧ 2 ≤ unity.filterLength ∧ ¬ (0#24 = 0x800000#24 ∨ 0#24 = 0x7FFFFF#24)) :=
  ⟨by unfold FewWaiting; decide +kernel, by unfold FewWaiting; decide +kernel, ⟨rfl, rfl, rfl⟩, by unfold FewWaiting; decide +kernel⟩

/-! ## Witnesses: the sale -/

theorem witness_PayingAndPulsesAreGuarded :
    (∀ bs v, Instr.beginPayment ≠ .frameReceived bs v ∧ Instr.beginPayment ≠ .frameDropped bs)
      ∧ (∃ t, exec .beginPayment (selling .opened [item 1 50]) = .next t
        ∧ (selling .opened [item 1 50]).sale.state = .opened ∧ t.sale.state = .paying)
      ∧ (∃ t, exec .drawerNoSale ready = .next t ∧ ready.drawer.state ≠ .pulsing ∧ t.drawer.state = .pulsing) :=
  ⟨fun _ _ => ⟨nofun, nofun⟩, ⟨_, rfl, by decide +kernel⟩, ⟨_, rfl, by decide +kernel⟩⟩

/-- A sale with a card session in a state, a face and a payment. -/
def withCard (x : SessionState) (mode : EntryMode) (full : Bool) (s : State) : State := shown { s with
  card := { s.card with session := ⟨x, some ⟨mode, text "984731******6175", .debit⟩, false,
    if full then some ⟨text "9847310020456175", 2708, none, none⟩ else none, some ⟨500, 1, 1⟩, none, some 0⟩ } }

/-- A sale whose cancel is pending. -/
def cancelling (s : State) : State := { s with sale := { s.sale with cancelPending := true } }

theorem witness_BeginPaymentAndResume :
    (let s := cancelling (selling .paying []); s.routes .sale = true ∧ s.lane.ready = true ∧ Published s ∧ s.sale.state ≠ .idle ∧ s.sale.cancelPending = true) ∧
    (let s := crowded 16 0 0 (selling .paying [item 1 50]);
      s.routes .sale = true ∧ Published s ∧ s.sale.state = .paying ∧ FewWaiting s
        ∧ (∀ l ∈ s.sale.lines, l.kind ≠ .cardTender ∧ l.kind ≠ .cashTender) ∧ s.card.session.state = .noCard) ∧
    (let s := selling .opened [item 1 50];
      s.routes .sale = true ∧ Published s ∧ s.sale.state = .opened ∧ (∀ l ∈ s.sale.lines, l.bag ≠ .await) ∧ s.attention.causes = []
        ∧ s.scan.queue = [] ∧ 0 < (totals s.sale.lines).balance ∧ s.card.session.state ≠ .preRead) ∧
    (let s := crowded 14 0 0 (withCard .preRead .swipe true (selling .opened [item 1 50]));
      s.routes .sale = true ∧ Published s ∧ s.card.session.state = .preRead ∧ s.card.session.face.isSome = true
        ∧ s.card.session.full.isSome = true ∧ s.link.waiters = [] ∧ s.link.queue.length ≤ 14
        ∧ (s.sale.lines.filter fun l => l.kind == .cardTender).length < 4 ∧ s.sale.lines.length < 120 ∧ s.card.attempts < 255) ∧
    (let s := selling .opened [];
      s.routes .sale = true ∧ Published s ∧ (totals s.sale.lines).balance = 0 ∧ s.composer.jobs.length < 8 ∧ s.sale.receiptSuppressed = false
        ∧ FewWaiting s ∧ s.cache.work = [] ∧ s.cache.waiting = false) :=
  ⟨⟨by decide +kernel, by decide +kernel, ⟨rfl, rfl, rfl⟩, by decide +kernel⟩,
    ⟨by decide +kernel, ⟨rfl, rfl, rfl⟩, by unfold FewWaiting; decide +kernel⟩,
    ⟨by decide +kernel, shown_published _, by decide +kernel⟩, ⟨by decide +kernel, ⟨rfl, rfl, rfl⟩, by decide +kernel⟩,
    by decide +kernel, shown_published _, by unfold FewWaiting; decide +kernel⟩

/-- A tender line. -/
def tender (n : Nat) (amount : Int) : SaleLine := { number := n, kind := .cashTender, amount := amount }

theorem witness_VoidsAndDiscounts :
    (let s := selling .settled []; s.routes .sale = true ∧ s.lane.ready = true ∧ Published s ∧ s.sale.state ≠ .opened ∧ s.sale.state ≠ .paying) ∧
    (let s := cancelling (selling .paying [item 1 50]); s.routes .sale = true ∧ Published s ∧ s.sale.state = .paying ∧ s.sale.cancelPending = true) ∧
    (let s := selling .opened [item 1 0, item 2 50];
      s.routes .sale = true ∧ Published s ∧ s.sale.state = .opened ∧ s.sale.cancelPending = false ∧ s.card.session.state = .noCard
        ∧ s.sale.lines[1 - 1]? = some (item 1 0) ∧ (item 1 0).number = 1 ∧ (item 1 0).voided = false ∧ s.sale.lines[9]? = none
        ∧ (item 1 0).bag ≠ .bagged ∧ s.sale.lines.length < 120 ∧ 0 ≤ itemTotal s.sale.lines - (item 2 50).amount ∧ FewWaiting s) ∧
    (let l := { item 1 50 with bag := .bagged }; let s := { selling .opened [l] with bagging := { ready.bagging with state := .awaitAdd } };
      s.sale.lines[1 - 1]? = some l ∧ l.bag = .bagged ∧ s.bagging.state ≠ .idle ∧ s.bagging.state ≠ .off) ∧
    (let s := selling .opened ((List.range 120).map fun n => item (n + 1) 0); 120 ≤ s.sale.lines.length ∧ s.sale.lines[120 - 1]? = some (item 120 0)) ∧
    (let s := selling .opened [item 1 50, { number := 2, kind := .discount, amount := -50 }]; itemTotal s.sale.lines - (item 1 50).amount < 0) ∧
    (1 ≤ 9999999 ∧ 9999999 ≤ 9999999 ∧ 9999999 < 10000000) :=
  ⟨⟨by decide +kernel, by decide +kernel, shown_published _, by decide +kernel⟩, ⟨by decide +kernel, ⟨rfl, rfl, rfl⟩, by decide +kernel⟩,
    ⟨by decide +kernel, shown_published _, by unfold FewWaiting; decide +kernel⟩, by decide +kernel, by decide +kernel, by decide +kernel,
    by decide⟩

theorem witness_VoidsAndDiscounts_paying :
    let s := crowded 16 8 0 (selling .paying [item 1 50])
    s.routes .sale = true ∧ s.lane.ready = true ∧ Published s ∧ FewWaiting s ∧ s.sale.state = .paying ∧ s.sale.cancelPending = false
      ∧ (∀ l ∈ s.sale.lines, l.kind ≠ .cardTender ∧ l.kind ≠ .cashTender) ∧ s.card.session.state = .noCard
      ∧ s.sale.lines[1 - 1]? = some (item 1 50) ∧ (item 1 50).bag ≠ .bagged ∧ s.sale.lines.length < 120
      ∧ itemTotal s.sale.lines = (item 1 50).amount ∧ s.composer.jobs.length < 8 ∧ s.sale.receiptSuppressed = false
      ∧ itemTotal (selling .paying [item 1 50, item 2 9]).sale.lines ≠ (item 1 50).amount :=
  ⟨by decide +kernel, rfl, ⟨rfl, rfl, rfl⟩, by unfold FewWaiting; decide +kernel, by decide +kernel⟩

/-- A lane with MANUAL_ONLY whose closed drawer holds a pending open. -/
def holding (s : State) : State := { s with
  lane := { s.lane with config := { s.lane.config with drawerPolicy := .manualOnly } }
  drawer := { s.drawer with state := .closed, pendingOpen := true, attempt := some 2, origin := some .retry } }

theorem witness_CashTenderPaysAndSettles :
    (let s := selling .opened []; s.routes .sale = true ∧ s.lane.ready = true ∧ Published s ∧ s.sale.state ≠ .paying) ∧
    (let s := cancelling (selling .paying []); s.routes .sale = true ∧ Published s ∧ s.sale.state = .paying ∧ s.sale.cancelPending = true) ∧
    (let s := selling .paying [item 1 50];
      s.routes .sale = true ∧ Published s ∧ s.sale.cancelPending = false ∧ s.card.session.state = .noCard ∧ s.sale.lines.length < 120 ∧ FewWaiting s
        ∧ 0 < (totals (s.sale.lines ++ [tender 2 49])).balance ∧ (totals (s.sale.lines ++ [tender 2 50])).balance ≤ 0
        ∧ s.composer.jobs.length < 8 ∧ s.sale.receiptSuppressed = false ∧ s.drawer.state = .closed ∧ s.drawer.pendingOpen = false
        ∧ s.attention.causes = [] ∧ s.lane.config.drawerPolicy = .onChangeDue ∧ (totals (s.sale.lines ++ [tender 2 51])).balance < 0) ∧
    (let s := holding (selling .paying [item 1 50]);
      s.routes .sale = true ∧ Published s ∧ s.drawer.state = .closed ∧ s.drawer.pendingOpen = true ∧ s.drawer.attempt = some 2
        ∧ s.drawer.origin = some .retry ∧ s.attention.causes = [] ∧ s.lane.config.drawerPolicy = .manualOnly) ∧
    (let s := selling .paying ((List.range 120).map fun n => item (n + 1) 0); 120 ≤ s.sale.lines.length ∧ s.sale.state = .paying) ∧
    (1 ≤ 99999999 ∧ 99999999 ≤ 99999999 ∧ 99999999 < 100000000) :=
  ⟨⟨by decide +kernel, by decide +kernel, shown_published _, by decide +kernel⟩, ⟨by decide +kernel, ⟨rfl, rfl, rfl⟩, by decide +kernel⟩,
    ⟨by decide +kernel, shown_published _, by unfold FewWaiting; decide +kernel⟩, ⟨by decide +kernel, ⟨rfl, rfl, rfl⟩, by decide +kernel⟩,
    by decide +kernel, by decide⟩

theorem witness_CancelNoReceiptAndRead :
    (Published ready ∧ ready.routes .sale = true ∧ ready.lane.ready = true ∧ ready.sale.state = .idle ∧ ready.lastSale = none) ∧
    (let s := selling .paying [tender 1 5]; Published s ∧ s.routes .sale = true ∧ ∃ l ∈ s.sale.lines, l.kind = .cashTender) ∧
    (let s := cancelling (selling .opened []); Published s ∧ s.routes .sale = true ∧ s.sale.state = .opened ∧ s.sale.cancelPending = true) ∧
    (let s := crowded 16 0 0 (selling .opened [item 1 50]);
      Published s ∧ s.routes .sale = true ∧ s.sale.cancelPending = false ∧ s.card.session.state = .noCard
        ∧ s.card.session.payment = none ∧ s.drawer.pendingOpen = false ∧ FewWaiting s) ∧
    (let s := holding (withCard .done .insert true (selling .opened [item 1 50]));
      Published s ∧ s.routes .sale = true ∧ s.card.session.state = .done ∧ s.drawer.state = .closed ∧ s.drawer.pendingOpen = true
        ∧ s.drawer.attempt = some 2 ∧ s.drawer.origin = some .retry ∧ s.attention.causes = [] ∧ FewWaiting s) ∧
    (let s := withCard .awaitResult .swipe true (selling .paying [item 1 50]);
      Published s ∧ s.routes .sale = true ∧ s.card.session.state = .awaitResult ∧ s.card.session.payment = some ⟨500, 1, 1⟩ ∧ FewWaiting s) ∧
    (let s := { selling .settled [] with sale := { (selling .settled []).sale with receipt := .waitingRoom, claim := some ⟨true, [default]⟩ } };
      Published s ∧ s.routes .sale = true ∧ s.sale.state = .settled ∧ s.sale.receipt = .waitingRoom ∧ s.sale.claim = some ⟨true, [default]⟩) ∧
    (120 < 121 ∧ 8 < 9 ∧ 120 ≤ 120 ∧ 8 ≤ 8) :=
  ⟨⟨shown_published _, by decide +kernel⟩, ⟨shown_published _, by decide +kernel⟩, ⟨⟨rfl, rfl, rfl⟩, by decide +kernel⟩,
    ⟨⟨rfl, rfl, rfl⟩, by unfold FewWaiting; decide +kernel⟩, ⟨⟨rfl, rfl, rfl⟩, by unfold FewWaiting; decide +kernel⟩,
    ⟨shown_published _, by unfold FewWaiting; decide +kernel⟩, ⟨⟨rfl, rfl, rfl⟩, by decide +kernel⟩, by decide⟩

/-! ## Witnesses: the bagging check -/

/-- An expectation of line 1. -/
def expects (d : Direction) (change : Int) : Expectation :=
  ⟨1, d, change, 10, if change = 0 then none else some (change - 10, change + 10), some 0, none⟩

/-- The check in a state, over a baseline of 0, with an expectation. -/
def checking (b : BagCheckState) (e : Option Expectation) : State :=
  let s := selling .opened [{ item 1 50 with bag := .await }]
  shown { s with bagging := { s.bagging with state := b, expectation := e, promptRaised := false, causeRaised := false, skips := 0 } }

theorem witness_SkipBagSkipsTheAwaitingLine :
    (let s := crowded 10 0 0 (checking .idle none); s.routes .sale = true ∧ Published s ∧ FewWaiting s ∧ s.bagging.state ≠ .awaitAdd) ∧
    (Published quiet ∧ quiet.routes .sale = true ∧ FewWaiting quiet ∧ quiet.lane.ready = false) ∧
    (let s := checking .awaitAdd (some (expects .add 100));
      s.routes .sale = true ∧ Published s ∧ FewWaiting s ∧ s.lane.ready = true ∧ s.bagging.state = .awaitAdd
        ∧ s.bagging.expectation = some (expects .add 100) ∧ s.bagging.skips ≠ s.lane.config.skipLimit) ∧
    (let s0 := checking .awaitAdd (some (expects .add 100)); let s := { s0 with bagging := { s0.bagging with skips := s0.lane.config.skipLimit } };
      Published s ∧ s.routes .sale = true ∧ s.bagging.skips = s.lane.config.skipLimit) :=
  ⟨⟨by decide +kernel, ⟨rfl, rfl, rfl⟩, by unfold FewWaiting; decide +kernel⟩,
    ⟨⟨by decide +kernel, by decide +kernel, by decide +kernel⟩, by unfold FewWaiting; decide +kernel⟩,
    ⟨by decide +kernel, shown_published _, by unfold FewWaiting; decide +kernel⟩, ⟨rfl, rfl, rfl⟩, by decide +kernel⟩

theorem witness_BaggingTimersExpire :
    (let s := checking .awaitAdd (some (expects .add 100));
      s.bagging.expectation = some (expects .add 100) ∧ (expects .add 100).timerStart.isSome = true ∧ s.bagging.promptRaised = false
        ∧ s.lane.config.promptsEnabled = true ∧ s.bagging.causeRaised = false) ∧
    (let s := checking .mismatch (some (expects .remove 100)); s.bagging.state = .mismatch ∧ s.bagging.expectation = some (expects .remove 100)) ∧
    (checking .unexpected none).bagging.state = .unexpected
    ∧ { (checking .unexpected none).bagging with causeRaised := true }.causeRaised = true := by decide +kernel

/-- A lane with prompts disabled. -/
def unprompted (s : State) : State := { s with lane := { s.lane with config := { s.lane.config with promptsEnabled := false } } }

theorem witness_BaggingTimersExpire_promoted :
    (let s := crowded 16 8 0 (unprompted (checking .awaitAdd (some (expects .add 100))));
      s.bagging.expectation = some (expects .add 100) ∧ (expects .add 100).timerStart.isSome = true ∧ s.bagging.promptRaised = false
        ∧ s.lane.config.promptsEnabled = false ∧ s.bagging.causeRaised = false ∧ FewWaiting s) ∧
    (let s := unprompted (checking .mismatch (some (expects .remove 100)));
      s.bagging.state = .mismatch ∧ s.bagging.expectation = some (expects .remove 100) ∧ s.bagging.promptRaised = false
        ∧ s.lane.config.promptsEnabled = false) := by
  unfold FewWaiting; decide +kernel

theorem witness_StableGrossesAreChecked :
    FewWaiting (crowded 16 8 0 (checking .off none)) ∧ (checking .suspended none).bagging.state = .suspended ∧
    (let s := checking .awaitAdd (some (expects .add 100));
      FewWaiting s ∧ s.bagging.baseline = some 0 ∧ s.bagging.expectation = some (expects .add 100) ∧ s.bagging.state = .awaitAdd
        ∧ (expects .add 100).change ≠ 0 ∧ (expects .add 100).window = some (90, 110) ∧ (90 : Int) ≤ 90 ∧ (110 : Int) ≤ 110
        ∧ (10 - 0 : Int).natAbs ≤ (expects .add 100).tolerance ∧ ¬ ((11 - 0 : Int).natAbs : Int) ≤ (expects .add 100).tolerance ∧ ¬ (90 : Int) ≤ 11) ∧
    (let s := checking .awaitRemove (some (expects .remove 0));
      s.bagging.state = .awaitRemove ∧ (expects .remove 0).change = 0 ∧ (s.lane.config.unexpected : Int) ≤ 0 - -20) ∧
    (let s := checking .mismatch (some (expects .add 100));
      s.bagging.state = .mismatch ∧ (expects .add 100).tolerance < (11 - 0 : Int).natAbs ∧ (10 - 0 : Int).natAbs ≤ (expects .add 100).tolerance) ∧
    (let s := checking .idle none;
      s.bagging.state = .idle ∧ s.bagging.expectation = none ∧ ((20 - 0 : Int).natAbs : Int) ≤ s.lane.config.unexpected
        ∧ (s.lane.config.unexpected : Int) < (21 - 0 : Int).natAbs) ∧
    (let s := checking .unexpected none; s.bagging.state = .unexpected ∧ s.bagging.baseline = some 0 ∧ s.bagging.expectation = none) ∧
    (let s0 := checking .awaitAdd (some (expects .add 100)); let s := { s0 with bagging := { s0.bagging with baseline := none } };
      s.bagging.baseline = none ∧ s.bagging.state = .awaitAdd) ∧
    ((weighs 100 100 ready.w1).state = .stable ∧ (weighs 100 100 ready.w1).stableGross = some 0) := by
  unfold FewWaiting; decide +kernel

/-- R80, R85: a sample of W1 that stays STABLE hands its gross to the check, here 10 g off a window of 90 g to 110 g. -/
theorem test_sample_reaches_the_check :
    (let s0 := checking .awaitAdd (some (expects .add 100)); let s := { s0 with w1 := weighs 200 0 s0.w1 };
      match exec (.converterSample .w1 200#24) s with
      | .next v => some (v.w1.state, v.w1.stableGross, v.bagging.state, v.bagging.delta)
      | _ => none) = some (.stable, some 20, .mismatch, some 20) := by decide +kernel

/-! ## Witnesses: attention, the drawer -/

/-- A state with causes listed, the first the primary. -/
def caused (cs : List Cause) (s : State) : State := shown { s with attention := { s.attention with
  causes := cs, primary := some ⟨3, 5, 1, none, false⟩, age := if cs.contains .ageCheck then some ⟨5, 1⟩ else none } }

theorem witness_CausesAreRaisedInOrder :
    (let s := caused [.ageCheck] (selling .opened []); Cause.ageCheck ∈ s.attention.causes ∧ Cause.saleFull ∉ s.attention.causes
      ∧ s.attention.causes.Nodup ∧ FewWaiting s) ∧
    (ready.attention.causes = [] ∧ FewWaiting (crowded 16 8 0 ready)) ∧
    (let s := wired 2 { alive with transmit := List.replicate 3 (.bytes [1]) } (selling .opened []);
      s.lane.ready = true ∧ s.attention.current = none ∧ s.attention.rest ≠ .attendant
        ∧ s.bus.channels[(2 : ChannelId)].present = true ∧ (∃ i : Fin 16, s.bus.slots[i] = .assigned 2 .data)
        ∧ s.attention.displayWaiting = none ∧ s.bus.channels[(2 : ChannelId)].transmit.length < 4) ∧
    4 ≤ (wired 2 { alive with transmit := List.replicate 4 (.bytes [1]) } (selling .opened [])).bus.channels[(2 : ChannelId)].transmit.length ∧
    (caused [.saleFull] (selling .opened [])).attention.rest = .attendant := by
  unfold FewWaiting; decide +kernel

theorem witness_CausesAreClearedAndPromptsEnd :
    (let s := caused [.ageCheck, .saleFull] (selling .opened [item 1 50]);
      s.routes .sale = true ∧ s.lane.ready = true ∧ Published s ∧ Cause.drawerForced ∉ s.attention.causes
        ∧ Cause.ageCheck ∈ s.attention.causes ∧ Cause.saleFull ∈ s.attention.causes ∧ FewWaiting s) ∧
    (let s := caused [.bagMismatch] (selling .opened []); s.routes .sale = true ∧ Published s ∧ Cause.bagMismatch ∈ s.attention.causes ∧ s.w1.stableGross = none) ∧
    (let s := caused [.printerFault] { ready with mechanism := { ready.mechanism with fault := some .cutterJam, cutterHome := false } };
      s.routes .sale = true ∧ Published s ∧ Cause.printerFault ∈ s.attention.causes ∧ s.mechanism.fault = some .cutterJam ∧ s.mechanism.cutterHome = false) ∧
    (let s := holding (caused [.saleFull] ready);
      s.routes .sale = true ∧ s.lane.ready = true ∧ Published s ∧ s.attention.causes.filter (· != .saleFull) = []
        ∧ s.sale.state = .idle ∧ s.drawer.state = .closed ∧ s.drawer.pendingOpen = true ∧ s.drawer.attempt = some 2
        ∧ s.drawer.origin = some .retry ∧ FewWaiting s) ∧
    (let s := { caused [.bagTimeout] (checking .mismatch (some (expects .add 0))) with w1 := weighs 7 7 ready.w1 };
      s.routes .sale = true ∧ Published s ∧ Cause.bagTimeout ∈ s.attention.causes ∧ s.w1.stableGross = some 0
        ∧ s.bagging.state = .mismatch ∧ s.bagging.expectation = some (expects .add 0) ∧ s.bagging.baseline = some 0
        ∧ ((0 - 0 : Int).natAbs : Int) ≤ (expects .add 0).tolerance) ∧
    (let s := caused [.unexpectedItem] (checking .unexpected none); s.routes .sale = true ∧ Published s ∧ s.bagging.state = .unexpected) ∧
    (let s0 := caused [.drawerJammed] ready; let s := { s0 with drawer := { s0.drawer with state := .jammed } };
      s.routes .sale = true ∧ Published s ∧ Cause.drawerJammed ∈ s.attention.causes ∧ s.sale.state = .idle ∧ s.drawer.state = .jammed
        ∧ s.attention.causes.filter (· != .drawerJammed) = []) ∧
    (let s0 := caused [.printerFault] ready;
      let s := { s0 with mechanism := { s0.mechanism with fault := some .cutterJam, cutterHome := true, repeatCut := true, ring := [.cut 1 true] } };
      s.routes .sale = true ∧ Published s ∧ Cause.printerFault ∈ s.attention.causes ∧ s.mechanism.fault = some .cutterJam
        ∧ s.mechanism.cutterHome = true ∧ s.mechanism.inProgress = none ∧ s.mechanism.stopped = false ∧ s.mechanism.hot = false
        ∧ s.mechanism.repeatCut = true ∧ s.mechanism.ring = .cut 1 true :: []) ∧
    (let s := caused [.ageCheck] (selling .opened [{ item 1 50 with bag := .await }]);
      s.routes .sale = true ∧ Published s ∧ Cause.ageCheck ∈ s.attention.causes ∧ s.attention.age = some ⟨5, 1⟩ ∧ s.sale.number = 5
        ∧ s.sale.lines[1 - 1]? = some { item 1 50 with bag := .await } ∧ s.sale.cancelPending = false
        ∧ s.card.session.state = .noCard ∧ 0 ≤ itemTotal s.sale.lines - (50 : Int)) ∧
    (let s := caused [.ageCheck] (selling .settled [item 1 50]);
      s.routes .sale = true ∧ Published s ∧ s.attention.age = some ⟨5, 1⟩ ∧ s.sale.state = .settled ∧ s.sale.number = 5
        ∧ s.sale.lines[1 - 1]? = some (item 1 50)) ∧
    (let s := { ready with attention := { ready.attention with current := some ⟨.scanAgain, none⟩, eventDeadline := some 0 } };
      s.attention.current = some ⟨.scanAgain, none⟩ ∧ PromptKind.scanAgain.isEvent = true ∧ s.attention.eventDeadline.isSome = true) :=
  ⟨⟨by decide +kernel, by decide +kernel, shown_published _, by unfold FewWaiting; decide +kernel⟩,
    ⟨by decide +kernel, shown_published _, by decide +kernel⟩, ⟨by decide +kernel, shown_published _, by decide +kernel⟩,
    ⟨by decide +kernel, by decide +kernel, ⟨rfl, rfl, rfl⟩, by unfold FewWaiting; decide +kernel⟩,
    ⟨by decide +kernel, ⟨rfl, rfl, rfl⟩, by decide +kernel⟩, ⟨by decide +kernel, shown_published _, by decide +kernel⟩,
    ⟨by decide +kernel, ⟨rfl, rfl, rfl⟩, by decide +kernel⟩, ⟨by decide +kernel, ⟨rfl, rfl, rfl⟩, by decide +kernel⟩,
    ⟨by decide +kernel, shown_published _, by decide +kernel⟩, ⟨by decide +kernel, shown_published _, by decide +kernel⟩, by decide +kernel⟩

/-- A lane with the drawer in a state, holding a release. -/
def drawered (d : DrawerState) (n : Option Nat) (s : State) : State := { s with drawer := { s.drawer with
  state := d, attempt := n, origin := n.map fun _ => .noSale, pendingOpen := d == .closed && n.isSome, openDeadline := some 0 } }

theorem witness_ReleasesPulseAndRetry :
    (let s := selling .opened []; s.routes .sale = true ∧ s.lane.ready = true ∧ Published s ∧ FewWaiting s ∧ s.sale.state ≠ .idle) ∧
    (let s := drawered .pulsing (some 1) ready; Published s ∧ s.routes .sale = true ∧ s.sale.state = .idle ∧ s.drawer.state = .pulsing ∧ s.drawer.switchOpen = false) ∧
    (let s := drawered .jammed none ready; Published s ∧ s.routes .sale = true ∧ s.drawer.state = .jammed) ∧
    (ready.drawer.state = .closed ∧ ready.drawer.pendingOpen = false ∧ ready.attention.causes = []) ∧
    (let s := drawered .closed (some 2) (crowded 16 8 0 ready);
      Published s ∧ FewWaiting s ∧ s.drawer.state = .closed ∧ s.drawer.pendingOpen = true ∧ s.drawer.attempt = some 2
        ∧ s.drawer.origin = some .noSale ∧ s.sale.state = .idle ∧ s.attention.causes = []) ∧
    (let s := drawered .closed (some 1) (caused [.saleFull] ready); s.drawer.pendingOpen = true ∧ s.attention.causes ≠ [] ∧ FewWaiting s) ∧
    (let s0 := drawered .pulsing (some 1) ready; let s := { s0 with drawer := { s0.drawer with switchOpen := true } };
      Published s ∧ s.drawer.state = .pulsing ∧ s.drawer.switchOpen = true ∧ FewWaiting s ∧ s.sale.state ≠ .settled) ∧
    (let s := drawered .openingWait (some 1) ready;
      Published s ∧ FewWaiting s ∧ s.drawer.state = .openingWait ∧ s.drawer.attempt = some 1 ∧ s.drawer.origin = some .noSale ∧ s.sale.state = .idle ∧ s.attention.causes = []) ∧
    (let s := drawered .openingWait (some 1) (selling .opened []); s.drawer.state = .openingWait ∧ ¬ (s.sale.state = .idle ∨ s.sale.state = .settled)) ∧
    (let s := drawered .openingWait (some 2) ready; FewWaiting s ∧ s.drawer.attempt = some 2 ∧ s.sale.state ≠ .settled) :=
  ⟨⟨by decide +kernel, by decide +kernel, shown_published _, by unfold FewWaiting; decide +kernel⟩, ⟨⟨rfl, rfl, rfl⟩, by decide +kernel⟩,
    ⟨⟨rfl, rfl, rfl⟩, by decide +kernel⟩, by decide +kernel, ⟨⟨rfl, rfl, rfl⟩, by unfold FewWaiting; decide +kernel⟩,
    by unfold FewWaiting; decide +kernel, ⟨⟨rfl, rfl, rfl⟩, by unfold FewWaiting; decide +kernel⟩,
    ⟨⟨rfl, rfl, rfl⟩, by unfold FewWaiting; decide +kernel⟩, by decide +kernel, by unfold FewWaiting; decide +kernel⟩

/-- The drawer with its switch open. -/
def switched (d : DrawerState) : State :=
  let s := drawered d none ready
  { s with drawer := { s.drawer with switchOpen := true } }

theorem witness_DrawerSwitchAndTill :
    (FewWaiting ready ∧ ready.sale.state ≠ .settled ∧ ready.drawer.switchOpen = false ∧ ready.drawer.state = .closed) ∧
    (let s := drawered .openingWait (some 1) ready; Published s ∧ FewWaiting s ∧ s.drawer.switchOpen = false ∧ s.drawer.state = .openingWait) ∧
    (let s := drawered .pulsing (some 1) ready; s.drawer.switchOpen = false ∧ s.drawer.state = .pulsing) ∧
    (let s := switched .overdue; FewWaiting s ∧ s.drawer.switchOpen = true ∧ s.drawer.state = .overdue) ∧
    (let s := switched .opened; s.drawer.state = .opened ∧ s.drawer.openDeadline.isSome = true) ∧
    (ready.routes .management = true ∧ ready.composer.jobs.length < 8) ∧
    (let s := { ready with composer := { ready.composer with jobs := List.replicate 8 default } }; s.routes .management = true ∧ 8 ≤ s.composer.jobs.length) :=
  ⟨by unfold FewWaiting; decide +kernel, ⟨⟨rfl, rfl, rfl⟩, by unfold FewWaiting; decide +kernel⟩, by decide +kernel,
    by unfold FewWaiting; decide +kernel, by decide +kernel, by decide +kernel, by decide +kernel⟩

/-! ## Witnesses: card acceptance -/

theorem witness_ReaderMessagesReachTheSession :
    (FewWaiting (crowded 16 8 0 ready) ∧ Published ready ∧ ready.card.session.state = .noCard ∧ ready.sale.state = .idle) ∧
    (let s := withCard .preRead .swipe true (selling .opened []); Published s ∧ s.card.session.state = .preRead ∧ ∀ f ∈ s.card.session.face, f.mode ≠ .insert) ∧
    (let s := withCard .preRead .insert true (selling .opened []); FewWaiting s ∧ s.card.session.state = .preRead ∧ ∃ f ∈ s.card.session.face, f.mode = .insert) ∧
    (withCard .done .insert false (selling .opened [])).card.session.state = .done ∧
    (let s := withCard .checked .tap true (selling .paying []); Published s ∧ s.card.session.state = .checked) ∧
    (let s := selling .paying [];
      s.card.session.state = .noCard ∧ s.lane.ready = true ∧ s.sale.state = .paying ∧ s.lane.config.promptsEnabled = true ∧ FewWaiting s
        ∧ s.card.failures + 1 < s.lane.config.cardFailureLimit ∧ s.bus.channels[(1 : ChannelId)].present = false) ∧
    (let s := wired 1 { alive with transmit := List.replicate 3 (.reader .ready) } (selling .paying []);
      s.lane.ready = true ∧ s.sale.state = .paying ∧ s.bus.channels[(1 : ChannelId)].present = true
        ∧ (∃ i : Fin 16, s.bus.slots[i] = .assigned 1 .data) ∧ s.card.waiting = [] ∧ s.bus.channels[(1 : ChannelId)].transmit.length < 4) ∧
    (let s0 := selling .opened []; let s := { s0 with card := { s0.card with failures := s0.lane.config.cardFailureLimit - 1 } };
      s.lane.config.cardFailureLimit ≤ s.card.failures + 1) ∧
    (let s := { ready with card := { ready.card with prompt := some ⟨.tryCardAgain, some 0⟩ } };
      s.card.prompt = some ⟨.tryCardAgain, some 0⟩ ∧ ReaderPromptKind.tryCardAgain ≠ .removeCard) :=
  ⟨⟨by unfold FewWaiting; decide +kernel, shown_published _, by decide +kernel⟩, ⟨shown_published _, by decide +kernel⟩,
    by unfold FewWaiting; decide +kernel, by decide +kernel, ⟨shown_published _, by decide +kernel⟩,
    by unfold FewWaiting; decide +kernel, by decide +kernel, by decide +kernel, by decide +kernel⟩

/-- The card of the worked sequence 5.13, by its mode, account and expiry. -/
def card (mode : EntryMode) (account expiry : String) : CardData := ⟨some mode, text account, text expiry, none, none⟩

/-- A sale whose lane has issuers, the first for the prefix 984731. -/
def issued (route : RouteClass) (s : State) : State := { s with
  lane := { s.lane with date := some 2708 }
  card := { s.card with attempts := 254, issuers := s.card.issuers.set 0 ⟨true, 984731, 984731, 16, 16, route⟩ } }

theorem witness_CardDataIsChecked :
    (cardWellFormed (card .swipe "9847310020456175" "2708") = true ∧ (card .swipe "9847310020456175" "2708").mode = some .swipe
      ∧ FewWaiting ready ∧ ready.lane.config.promptsEnabled = true ∧ Published ready ∧ ready.sale.state = .idle) ∧
    (let s := crowded 16 8 0 (selling .opened []);
      FewWaiting s ∧ s.lane.ready = true ∧ s.sale.state = .opened ∧ s.card.session.state = .noCard
        ∧ s.card.failures + 1 < s.lane.config.cardFailureLimit ∧ cardWellFormed (card .tap "98473100204" "2708") = true
        ∧ ¬ 12 ≤ (card .tap "98473100204" "2708").account.length) ∧
    (cardWellFormed (card .tap "9847310020456176" "2708") = true ∧ accountCheckOk (text "9847310020456176") = false) ∧
    (accountCheckOk (text "9847310020456175") = true ∧ cardWellFormed (card .insert "9847310020456175" "2707") = true
      ∧ ¬ (2708 ≤ digitsValue (text "2707")) ∧ 2708 ≤ digitsValue (text "2708")) ∧
    (let s := issued .debit (selling .opened []);
      s.card.issuers[(0 : Fin 64)].valid = true ∧ s.card.issuers[(0 : Fin 64)].low ≤ digitsValue ((text "9847310020456175").take 6)
        ∧ digitsValue ((text "9847310020456175").take 6) ≤ s.card.issuers[(0 : Fin 64)].high
        ∧ s.card.issuers[(0 : Fin 64)].minLength ≤ 16 ∧ 16 ≤ s.card.issuers[(0 : Fin 64)].maxLength ∧ RouteClass.debit ≠ .refuse) ∧
    (∀ i : Fin 64, (selling .opened []).card.issuers[i].valid = false) ∧
    (let s := issued .credit (crowded 15 0 0 (selling .paying [item 1 50]));
      s.sale.state = .paying ∧ s.card.session.state = .noCard ∧ (s.sale.lines.filter fun l => l.kind == .cardTender).length < 4
        ∧ s.sale.lines.length < 120 ∧ s.card.attempts < 255 ∧ s.link.waiters = [] ∧ s.link.queue.length < 16 ∧ FewWaiting s) :=
  ⟨⟨by decide +kernel, by decide +kernel, by unfold FewWaiting; decide +kernel, by decide +kernel, shown_published _, by decide +kernel⟩,
    by unfold FewWaiting; decide +kernel, by decide +kernel, by decide +kernel, by decide +kernel, by decide +kernel,
    by unfold FewWaiting; decide +kernel⟩

theorem witness_CardDataIsChecked_not_taken :
    (∃ d : CardData, cardWellFormed d = false ∧ d.mode = none) ∧
    cardWellFormed (card .swipe "9847310020456175" "2713") = false ∧
    (let s := withCard .awaitResult .swipe true (selling .paying [item 1 50]);
      Published s ∧ FewWaiting s ∧ s.card.session.state = .awaitResult) ∧
    (let s := issued .credit (selling .paying (List.replicate 4 { number := 1, kind := .cardTender, amount := 1 }));
      s.sale.state = .paying ∧ s.card.session.state = .noCard ∧ FewWaiting s
        ∧ 4 ≤ (s.sale.lines.filter fun l => l.kind == .cardTender).length) ∧
    (let s := issued .credit (selling .paying ((List.range 120).map fun n => item (n + 1) 0));
      (s.sale.lines.filter fun l => l.kind == .cardTender).length < 4 ∧ 120 ≤ s.sale.lines.length) ∧
    (let s := issued .credit (withCard .done .insert false (selling .paying [item 1 50]));
      s.card.session.state = .done ∧ s.link.queue.length ≤ 14 ∧ s.link.waiters = [] ∧ s.sale.lines.length < 120
        ∧ ({ s with card := { s.card with attempts := 255 } } : State).card.attempts = 255) :=
  ⟨⟨⟨none, [], [], none, none⟩, by decide +kernel, rfl⟩, by decide +kernel,
    ⟨⟨rfl, rfl, rfl⟩, by unfold FewWaiting; decide +kernel⟩, by unfold FewWaiting; decide +kernel, by decide +kernel, by decide +kernel⟩

theorem witness_cards_with_prompts_disabled :
    let s := crowded 16 8 0 (unprompted (selling .opened []))
    FewWaiting s ∧ s.lane.ready = true ∧ s.sale.state = .opened ∧ s.card.session.state = .noCard ∧ s.lane.config.promptsEnabled = false
      ∧ s.attention.causes = [] ∧ s.attention.current ≠ some ⟨.cardDeclined, none⟩
      ∧ cardWellFormed (card .tap "9847310020456176" "2708") = true ∧ accountCheckOk (text "9847310020456176") = false := by
  unfold FewWaiting; decide +kernel

theorem witness_PaymentsEnd_settling :
    (let s := crowded 16 8 0 (withCard .awaitResult .insert true (selling .paying [item 1 500]));
      FewWaiting s ∧ s.routes .payment = true ∧ s.card.session.payment = some ⟨500, 1, 1⟩ ∧ 0 < (totals s.sale.lines).balance
        ∧ (totals s.sale.lines).balance ≤ ((min 99999999 500 : Nat) : Int) ∧ s.composer.jobs.length < 8
        ∧ s.sale.receiptSuppressed = false ∧ s.drawer.pendingOpen = false ∧ ∀ y ∈ s.sale.lines, y.kind ≠ .cashTender) ∧
    (let s := cancelling (withCard .cancelAsked .swipe false (selling .paying [item 1 500]));
      s.sale.cancelPending = true ∧ s.card.session.state = .cancelAsked ∧ ((min 1 500 : Nat) : Int) < (totals s.sale.lines).balance) := by
  unfold FewWaiting; decide +kernel

theorem witness_PaymentsEnd_cancelling :
    (let s := cancelling (withCard .cancelAsked .swipe false (selling .paying [item 1 500]));
      FewWaiting s ∧ s.card.session.face.isSome = true ∧ s.card.session.payment = some ⟨500, 1, 1⟩
        ∧ s.routes .payment = true ∧ s.sale.state = .paying ∧ s.sale.cancelPending = true ∧ 0 ≤ 99999999
        ∧ approvalOk (text "ABC123") = true) ∧
    (let s := withCard .checked .insert true (selling .paying [item 1 500]);
      FewWaiting s ∧ s.routes .sale = true ∧ s.lane.ready = true ∧ Published s ∧ s.sale.state = .paying
        ∧ s.sale.cancelPending = false ∧ (∀ l ∈ s.sale.lines, l.kind ≠ .cardTender ∧ l.kind ≠ .cashTender)
        ∧ s.card.session.state = .checked) ∧
    (let s := withCard .cancelAsked .swipe false (selling .paying [item 1 500]);
      FewWaiting s ∧ s.routes .sale = true ∧ Published s ∧ s.sale.cancelPending = false ∧ s.card.session.state = .cancelAsked) :=
  ⟨by unfold FewWaiting; decide +kernel, ⟨by unfold FewWaiting; decide +kernel, by decide +kernel, by decide +kernel, ⟨rfl, rfl, rfl⟩, by decide +kernel⟩,
    by unfold FewWaiting; decide +kernel, by decide +kernel, ⟨rfl, rfl, rfl⟩, by decide +kernel⟩

theorem witness_PaymentsEnd :
    (let s0 := withCard .checked .swipe true (selling .paying [item 1 500]);
      let s := { crowded 15 0 0 s0 with link := { (crowded 15 0 0 s0).link with waiters := [.paymentRequest] } };
      FewWaiting s ∧ s.lane.config.promptsEnabled = true ∧ Published s ∧ s.card.session.face.isSome = true
        ∧ s.card.session.payment = some ⟨500, 1, 1⟩ ∧ s.card.session.state = .checked ∧ s.card.session.full.isSome = true
        ∧ s.link.waiters = [.paymentRequest] ∧ s.link.queue.length < 16 ∧ s.sale.cancelPending = false) ∧
    (let s := crowded 16 8 0 (withCard .awaitResult .swipe true (selling .paying [item 1 500]));
      FewWaiting s ∧ Published s ∧ s.routes .payment = true ∧ s.card.session.state = .awaitResult ∧ s.sale.state = .paying
        ∧ s.sale.cancelPending = false ∧ ((min 499 500 : Nat) : Int) < (totals s.sale.lines).balance ∧ approvalOk (text "ABC123") = true
        ∧ 1 ≤ 499 ∧ 499 ≤ 99999999 ∧ 99999999 < 100000000 ∧ (1 : Nat) ≤ 500) ∧
    (let s := cancelling (withCard .cancelAsked .insert false (selling .paying [item 1 500]));
      FewWaiting s ∧ s.routes .payment = true ∧ s.card.session.state = .cancelAsked ∧ s.sale.state = .paying ∧ s.sale.cancelPending = true) ∧
    (let s := withCard .awaitResult .insert true (selling .paying [item 1 500]);
      Published s ∧ s.routes .payment = true ∧ ¬ (2 = (⟨500, 1, 1⟩ : Payment).attempt)) :=
  ⟨⟨by unfold FewWaiting; decide +kernel, by decide +kernel, ⟨rfl, rfl, rfl⟩, by decide +kernel⟩,
    ⟨by unfold FewWaiting; decide +kernel, ⟨rfl, rfl, rfl⟩, by decide +kernel⟩, by unfold FewWaiting; decide +kernel,
    shown_published _, by decide +kernel⟩

/-! ## Witnesses: composition and printing -/

theorem witness_JobRequestsQueueJobs :
    (ready.routes .print = true ∧ FewWaiting ready ∧ ready.lastSale = none ∧ ready.composer.jobs.length < 8) ∧
    (let s := { crowded 16 0 0 ready with
        lastSale := some default, composer := { ready.composer with jobs := List.replicate 8 default, nextJob := 65535 } };
      s.routes .print = true ∧ FewWaiting s ∧ s.lastSale ≠ none ∧ 8 ≤ s.composer.jobs.length) ∧
    (let ls : List Text := List.replicate 40 (List.replicate 64 0x41); ls ≠ [] ∧ ls.length ≤ 40 ∧ ∀ l ∈ ls, l.length ≤ 64) ∧
    (¬ (List.replicate 65 (0x41#8)).length ≤ 64 ∧ 15 < 16 ∧ 15 ≤ 15) := by unfold FewWaiting; decide +kernel

theorem witness_ComposerTablesAreWritten :
    (let s := { ready with composer := { ready.composer with composing := true } }; s.routes .print = true ∧ s.composer.composing = true) ∧
    (let s := { ready with composer := { ready.composer with segments := ready.composer.segments.set 15 (some ⟨0, List.replicate 10 0⟩), freeMark := 630 } };
      s.routes .print = true ∧ s.composer.composing = false ∧ s.composer.segments[(15 : Fin 16)] = some ⟨0, List.replicate 10 0⟩
        ∧ 10 ≤ 640 - s.composer.freeMark ∧ 640 - s.composer.freeMark < 11 ∧ s.composer.segments[(0 : Fin 16)] = none
        ∧ ¬ (10 : Nat) < 0 + 10 ∧ 10 < 1 + (List.replicate 10 (0 : DotLine)).length) ∧
    ((List.replicate 24 4095).length = 24 ∧ (∀ r ∈ List.replicate 24 4095, r < 2 ^ 12) ∧ (∀ r ∈ List.replicate 17 511, r < 2 ^ 9)
      ∧ (List.replicate 14 (0 : DotLine)).length ≤ 14 ∧ (0x1F#8 < 0x20#8 ∧ 0x9F#8 < 0xA0#8)) ∧
    (let w : FormatWrite := ⟨true, some .b, 2, 1, 0, 99, 25, [], some 3⟩; w.font = some .b ∧ w.widthScale = 2 ∧ w.heightScale = 1 ∧ ∀ n ∈ w.script, n ≤ 3) ∧
    (let ms : List MoveWrite := List.replicate 8 ⟨15, 640, 0, 9, some .forward, 2⟩;
      ms.length ≤ 8 ∧ ∀ m ∈ ms, m.order.isSome = true ∧ m.segment ≤ 15 ∧ (m.scale = 1 ∨ m.scale = 2)) := by decide +kernel

theorem witness_DotsAreStrobedByHistory :
    let m := { ready.mechanism with band := some 7 }
    m.band = some (7 : Fin 8).val ∧ 1 ≤ m.heat.dotLimit := by decide +kernel

/-- A mechanism at work on an element. -/
def printing (e : InProgress) (ring : List RingElement) (s : State) : State := { s with
  mechanism := { s.mechanism with inProgress := some e, ring := ring } }

/-- The elements of a job, as its composition starts. -/
def elements (j : Job) (s : State) : List Element :=
  jobElements s.composer ⟨s.lane.config.decimals, s.lane.config.separator⟩ s.sale s.lastSale { j with state := .composing }

/-- A mechanism at work, before a job. -/
def jobbed (j : Job) (s : State) : State :=
  let s := printing (.line 0 (some 9) []) (List.replicate 96 (.line 0 9)) s
  { s with composer := { s.composer with jobs := [j] } }

theorem witness_CompositionPrintsAndCuts :
    (let j : Job := ⟨1, .text, .queued, none, none, .text [text "A"], false, 0⟩; let s := jobbed j (crowded 16 8 0 ready);
      FewWaiting s ∧ Published s ∧ s.composer.composing = false ∧ s.composer.todo = [] ∧ s.composer.jobs = [] ++ j :: []
        ∧ s.mechanism.inProgress.isSome = true ∧ elements j s = (elements j s).dropLast ++ [.cut true]
        ∧ (∀ e ∈ (elements j s).dropLast, e ≠ .cut true)
        ∧ s.mechanism.ringLines + ((elements j s).dropLast.flatMap fun e => match e with
            | .row ls => ls | .line d => [d] | _ => []).length ≤ 384) ∧
    (let j : Job := ⟨1, .saleReceipt, .queued, some 5, some ⟨true, []⟩, .none, false, 0⟩; let s := jobbed j (selling .settled []);
      FewWaiting s ∧ Published s ∧ s.composer.jobs = [] ++ j :: [] ∧ elements j s = (elements j s).dropLast ++ [.cut true]
        ∧ (∀ e ∈ (elements j s).dropLast, e ≠ .cut true)
        ∧ s.mechanism.ringLines + ((elements j s).dropLast.flatMap fun e => match e with
            | .row ls => ls | .line d => [d] | _ => []).length ≤ 384
        ∧ s.sale.state = .settled ∧ j.saleNumber = some s.sale.number ∧ s.drawer.state = .closed) ∧
    (let e : FormatEntry := ⟨true, .b, 2, 2, 32, 32, 0, [], none⟩;
      1 ≤ e.leftStart ∧ e.leftStart ≤ e.rightEnd ∧ (text "A").length ≤ e.rightEnd + 1 - e.leftStart) ∧
    (let j : Job := ⟨1, .text, .composing, none, none, .text [[]], false, 0⟩;
      let s0 := printing (.line 0 (some 9) []) (List.replicate 382 (.line 0 9)) ready;
      let s := { s0 with composer := { s0.composer with jobs := [j], composing := true, todo := [.line 5, .row [0, 0]] } };
      Published s ∧ s.composer.composing = true ∧ (s.composer.jobs.find? fun k => k.state == .composing) = some j
        ∧ s.composer.todo = [.line 5] ++ .row [0, 0] :: [] ∧ s.mechanism.ringLines + [5].length ≤ 384
        ∧ 384 < s.mechanism.ringLines + [5].length + [0, 0].length ∧ s.mechanism.inProgress.isSome = true) ∧
    (let s := printing (.line 5 (some 1) []) [.line 5 1, .line 6 1] ready;
      s.mechanism.inProgress = some (.line 5 (some 1) []) ∧ s.mechanism.ring = .line 5 1 :: [.line 6 1] ∧ s.mechanism.fault = none
        ∧ s.mechanism.stopped = false ∧ s.mechanism.hot = false ∧ s.mechanism.repeatCut = false ∧ s.mechanism.continuation = []) ∧
    (let s0 := printing (.line 5 (some 1) []) [.line 5 1] ready; let s := { s0 with mechanism := { s0.mechanism with stopped := true } };
      s.mechanism.ring = .line 5 1 :: [] ∧ s.mechanism.stopped = true) ∧
    (let j : Job := ⟨1, .text, .printing, none, none, .text [[]], false, 1⟩;
      let s0 := printing (.cut 1 true) [.cut 1 true] (crowded 16 8 0 ready); let s := { s0 with composer := { s0.composer with jobs := [j] } };
      FewWaiting s ∧ Published s ∧ s.mechanism.inProgress = some (.cut j.number true) ∧ s.mechanism.ring = .cut 1 true :: []
        ∧ s.composer.jobs = [j] ∧ j.state = .printing ∧ j.cuts = 1 ∧ s.sale.receipt ≠ .waitingRoom ∧ s.attention.causes = []) :=
  ⟨⟨by unfold FewWaiting; decide +kernel, ⟨rfl, rfl, rfl⟩, by decide +kernel⟩,
    ⟨by unfold FewWaiting; decide +kernel, ⟨rfl, rfl, rfl⟩, by decide +kernel⟩, by decide +kernel, ⟨⟨rfl, rfl, rfl⟩, by decide +kernel⟩,
    by decide +kernel, by decide +kernel, by unfold FewWaiting; decide +kernel, ⟨rfl, rfl, rfl⟩, by decide +kernel⟩

theorem witness_PrinterInputsAndResume :
    (FewWaiting (crowded 16 8 0 ready) ∧ Published ready ∧ ready.mechanism.openRun < 2) ∧
    { ready.mechanism with openRun := 2 }.openRun = 2 ∧
    (ready.mechanism.paperPresent ≠ false ∧ ready.mechanism.coverClosed ≠ false ∧ ready.mechanism.paperNearEnd ≠ true) ∧
    (let s0 := printing (.cut 1 true) [.cut 1 true] ready; let s := { s0 with mechanism := { s0.mechanism with cutterHome := false } };
      FewWaiting s ∧ s.mechanism.inProgress = some (.cut 1 true) ∧ s.mechanism.cutterHome = false) ∧
    (ready.routes .print = true ∧ ready.mechanism.state ≠ .suspended) ∧
    (let s := { ready with mechanism := { ready.mechanism with stopped := true } };
      Published s ∧ FewWaiting s ∧ s.routes .print = true ∧ s.mechanism.state = .suspended ∧ s.mechanism.paperPresent = true
        ∧ s.mechanism.coverClosed = true ∧ s.mechanism.ring = []) :=
  ⟨⟨by unfold FewWaiting; decide +kernel, shown_published _, by decide +kernel⟩, rfl, by decide +kernel, by unfold FewWaiting; decide +kernel,
    by decide +kernel, ⟨rfl, rfl, rfl⟩, by unfold FewWaiting; decide +kernel⟩

/-! ## Values worked out in the manual -/

/-- The next state of a command. -/
def after (c : Instr) (s : State) : State :=
  match exec c s with
  | .next t => t
  | _ => s

/-- 1.12: the check digit of 21847530 is 0. -/
theorem test_check_digit : codePasses .scanner (text "21847530") = true ∧ codePasses .scanner (text "21847531") = false := by
  decide +kernel

/-- 1.12: 970 g at 349 per kilogram. -/
theorem test_weighed_price : weighedPrice 970 349 = 339 := by decide +kernel

/-- 1.12, steps 4 to 7: the totals after the void, the card tender and the cash tender. -/
theorem test_totals :
    totals [item 1 249, item 2 339, item 3 238, { number := 4, kind := .void, amount := -249, target := some 1 },
      { number := 5, kind := .cardTender, amount := 400 }, tender 6 200] = ⟨577, 600, -23⟩ := by decide +kernel

/-- 2.7: the four codes of set 171. -/
theorem test_cache_sets : [4011 % 256, 4267 % 256, 4523 % 256, 4779 % 256] = [171, 171, 171, 171] := by decide

/-- The record of 3.11. -/
def record311 : CalRecord := ⟨104567, 9000, 15000, 5, 4, 10, 50, true, 1⟩

/-- 3.11: one sample through the conversion. -/
theorem test_conversion : convert record311 1234567#24 = 9699 := by decide +kernel

/-- W0 of 3.11 before the newest sample. -/
def w0At311 : State := { ready with w0 := { ready.w0 with
  work := some record311, history := [9, 9697, 9699, 9700], window := [0, 9690, 9693, 9695, 9696, 9697, 9698, 9698, 9699, 9699]
  zeroStatus := .set, zero := some 12, zeroInit := some 8, absenceStart := some 0 } }

/-- 3.11: filter, stability, gross, weight and tracking run after a sample that converts to 9,700. -/
theorem test_sample_through_the_chain :
    (let t := after (.converterSample .w0 1234742#24) w0At311; (t.w0.average, t.w0.reading, t.w0.trackRun) = (9699, ⟨.stable, .set, some 970, some 969⟩, 0)) := by decide +kernel

/-- 5.13: the account numbers of the card read twice. -/
theorem test_account_check :
    accountCheckOk (text "9847310020456176") = false ∧ accountCheckOk (text "9847310020456175") = true
      ∧ maskAccount (text "9847310020456176") = text "984731******6176" := by decide +kernel

/-- 5.13, at 9,700 ms: an approval that matches no payment is answered with REVERSAL. -/
theorem test_late_approval :
    (let t := after (.paymentResult 58 1 (some .approved) 1250 (some (text "K7Q2M9"))) ready; t.link.queue = [.notice (.reversal 58 1 (text "K7Q2M9") 1250),
          .reply ⟨.payment, .paymentResult, .done (.result false none)⟩]) := by decide +kernel

/-- 8.8: a temperature of 41 °C is band 3, and the strobe times of its four classes. -/
theorem test_strobe_times :
    bandOf Config.heatDefaults 41 = 3 ∧
    (let m := { ready.mechanism with heat := Config.heatDefaults, band := some 3 };
      [m.strobe 0, m.strobe 1, m.strobe 2, m.strobe 3] = [1312, 1115, 918, 787]) := by decide +kernel

/-- 8.8: 220 dots of one class are two sub-passes of 192 and 28 dots. -/
theorem test_sub_passes :
    (linePasses { ready.mechanism with heat := Config.heatDefaults, band := some 3 } (2 ^ 220 - 1)).map (fun p => (p.cls, p.dots.length, p.micros))
      = [(0, 192, 1312), (0, 28, 1312)] := by decide +kernel

/-- 8.8: band 7 sets the hot latch, bands 4 and 5 clear it, band 6 leaves it. -/
theorem test_hot_latch :
    hotAfter false (some 7) = true ∧ hotAfter true (some 4) = false ∧ hotAfter true (some 5) = false ∧ hotAfter true (some 6) = true := by
  decide +kernel

/-- R119, R123: the switch opens with the drawer CLOSED and no release. -/
theorem test_forced_drawer :
    (let t := after .switchShowsOpen ready; t.drawer.state = .forced ∧ t.attention.causes = [.drawerForced] ∧ t.drawer.till.forced = 1) := by decide +kernel

/-- R140: a label has its space behind it also before an empty text. -/
theorem test_label_space : labelled (text "NOTE") [] = text "NOTE " ∧ labelled [] (text "A") = text "A" := by decide +kernel

/-- R185: a reply waiting for room, of a request refused with UNKNOWN too, makes the next Management request BUSY. -/
theorem test_waiting_reply_is_busy :
    (let s := routeFrame 0x00#8 0x80#8 [] (crowded 16 0 0 ready);
      (after .configRead s).link.replies.map (fun w => w.reply.body) = [ReplyBody.refused .unknown, .refused .busy]) := by decide +kernel

/-- R110, R115: the notice of a KEY CANCEL carries the card it withdraws. -/
theorem test_key_cancel_names_the_card :
    (let t := after .keyCancel (withCard .checked .swipe true (selling .paying [item 1 500]));
      t.card.session.face = none ∧ ∃ n, Frame.notice (.cardState n) ∈ t.link.queue ∧ n.event = .keyCancel
        ∧ n.masked = some (text "984731******6175")) :=
  ⟨by decide +kernel, _, .tail _ (.head _), by decide +kernel, by decide +kernel⟩

/-- R156: home shown again during a cut ends it. -/
theorem test_home_ends_the_cut :
    (let t := after (.cutterHomeChange true) (after (.cutterHomeChange false) (printing (.cut 1 false) [.cut 1 false] ready));
      (t.mechanism.inProgress, t.mechanism.ring) = (none, [])) := by decide +kernel

/-- R1: in IDLE, STATUS_READ reports the change and the cancel mark, 0 and not pending, beside receipt NONE. -/
theorem test_status_in_idle :
    (let x := statusReport ready; (x.change, x.cancelPending, x.receipt)) = (0, false, .none) := by decide +kernel

/-- R72: a SCALE_STATE that waits takes the newer state, MOTION after STABLE too. -/
theorem test_waiting_scale_state_is_replaced :
    (let w : Waiter := .notice (.scale .w0) (.scaleState .w0 .stable .set 0 (some 10));
      let s := { crowded 16 0 0 (weighing 100 0) with link := { (crowded 16 0 0 ready).link with waiters := [w] } };
      let t := after (.converterSample .w0 900#24) s;
      t.w0.state = .motion ∧ t.link.waiters = [.notice (.scale .w0) (.scaleState .w0 .motion .set 0 (some 50))]) := by decide +kernel

/-- R182: a code stands behind a message that waits for the link. -/
theorem test_code_stands_behind :
    (let s0 := wired 0 { alive with complete := [[0x44]] } (selling .opened []);
      let t := after (.codeMessage (text "21847530")) { s0 with link := { s0.link with waiters := [.uplink 0] } };
      t.scan.queue = [] ∧ t.bus.channels[(0 : ChannelId)].complete = [[0x44], 0x43 :: text "21847530"]) := by decide +kernel

/-- R163, R108: the approval that settles the sale sends its line text, the rest text WELCOME and then REMOVE_CARD. -/
theorem test_rest_text_before_the_prompt :
    (let s0 := withCard .awaitResult .insert true (selling .paying [item 1 500]);
      let s1 := { s0 with card := { s0.card with session := { s0.card.session with cardInReader := true } } };
      let t := after (.paymentResult 5 1 (some .approved) 500 (some (text "K7Q2M9"))) (wired 2 alive s1);
      (t.bus.channels[(2 : ChannelId)].transmit.map fun m => match m with | .bytes b => b.getD 1 0 | _ => 0xFF)
        = [0x20, 0x0D, 0x06]) := by decide +kernel

end Sys2Proof.Tests
end

section
/-! PROOFS. Rounding and clamping, and the conversion of a converter sample built from them (R59). -/

namespace Sys2Proof.Machine

/-! ## Clamping (00_scope 4.8) -/

theorem clampInt_le {lo hi : Int} (h : lo ≤ hi) (x : Int) : clampInt lo hi x ≤ hi := by
  unfold clampInt; omega

theorem le_clampInt (lo hi x : Int) : lo ≤ clampInt lo hi x := by
  unfold clampInt; omega

theorem clampInt_of_mem {lo hi x : Int} (hlo : lo ≤ x) (hhi : x ≤ hi) : clampInt lo hi x = x := by
  unfold clampInt; omega

theorem clampInt_of_hi_le {lo hi x : Int} (h : lo ≤ hi) (hx : hi ≤ x) : clampInt lo hi x = hi := by
  unfold clampInt; omega

theorem clampInt_of_le_lo {lo hi x : Int} (hx : x ≤ lo) : clampInt lo hi x = lo := by
  unfold clampInt; omega

/-! ## Rounding (00_scope 4.1) -/

theorem roundDiv_of_nonneg {n : Int} (hn : 0 ≤ n) (d : Nat) : roundDiv n d = (2 * n + d) / (2 * d) :=
  if_pos hn

theorem roundDiv_of_neg {n : Int} (hn : n < 0) (d : Nat) : roundDiv n d = -((2 * -n + d) / (2 * d)) :=
  if_neg (Int.not_le.mpr hn)

theorem roundDiv_zero {d : Nat} (hd : 0 < d) : roundDiv 0 d = 0 := by
  rw [roundDiv_of_nonneg (Int.le_refl 0)]
  exact Int.ediv_eq_zero_of_lt (by omega) (by omega)

/-- Rounding is symmetric about zero, so a fact about dividends from 0 up carries over to those below. -/
theorem roundDiv_neg (n : Int) {d : Nat} (hd : 0 < d) : roundDiv (-n) d = -roundDiv n d := by
  obtain hn | rfl | hn := Int.lt_trichotomy n 0
  · rw [roundDiv_of_nonneg (n := -n) (by omega), roundDiv_of_neg hn, Int.neg_neg]
  · rw [Int.neg_zero, roundDiv_zero hd, Int.neg_zero]
  · rw [roundDiv_of_neg (n := -n) (by omega), roundDiv_of_nonneg (by omega), Int.neg_neg]

/-- From 0 up, a quotient rounds to `q` from the half below `q`, included, to the half above it, excluded. -/
theorem roundDiv_eq_of_nonneg {n q : Int} {d : Nat} (hn : 0 ≤ n)
    (hlow : -d ≤ 2 * (n - q * d)) (hhigh : 2 * (n - q * d) < d) : roundDiv n d = q := by
  have hd : (0 : Int) < 2 * d := by omega
  have hqd : q * (2 * d) = 2 * (q * d) := Int.mul_left_comm q 2 d
  rw [roundDiv_of_nonneg hn]
  apply Int.le_antisymm
  · exact Int.lt_add_one_iff.mp ((Int.ediv_lt_iff_lt_mul hd).mpr (by rw [Int.add_mul]; omega))
  · exact (Int.le_ediv_iff_mul_le hd).mpr (by omega)

/-- A quotient rounds to the integer it is less than a half away from. -/
theorem roundDiv_eq_of_near {n q : Int} {d : Nat} (h : 2 * (n - q * d).natAbs < d) : roundDiv n d = q := by
  obtain hn | hn := Int.le_total 0 n
  · exact roundDiv_eq_of_nonneg hn (by omega) (by omega)
  · have mirrored : roundDiv (-n) d = -q :=
      roundDiv_eq_of_nonneg (by omega) (by rw [Int.neg_mul]; omega) (by rw [Int.neg_mul]; omega)
    rw [roundDiv_neg n (by omega)] at mirrored
    exact Int.neg_inj.mp mirrored

/-- An exact half above an integer that is not negative goes up. -/
theorem roundDiv_half_above {n q : Int} {d : Nat} (hd : 0 < d) (hq : 0 ≤ q) (h : 2 * (n - q * d) = d) :
    roundDiv n d = q + 1 := by
  have hqd : 0 ≤ q * d := Int.mul_nonneg hq (Int.natCast_nonneg d)
  have hnext : (q + 1) * d = q * d + d := by rw [Int.add_mul, Int.one_mul]
  exact roundDiv_eq_of_nonneg (by omega) (by omega) (by omega)

/-- An exact half below an integer that is not positive goes down. -/
theorem roundDiv_half_below {n q : Int} {d : Nat} (hd : 0 < d) (hq : q ≤ 0) (h : 2 * (n - q * d) = -d) :
    roundDiv n d = q - 1 := by
  have mirrored : roundDiv (-n) d = -q + 1 :=
    roundDiv_half_above hd (by omega) (by rw [Int.neg_mul]; omega)
  rw [roundDiv_neg n hd] at mirrored
  omega

theorem le_roundDiv {n q : Int} {d : Nat} (hd : 0 < d) (hq : 0 ≤ q) (h : q * d ≤ n) : q ≤ roundDiv n d := by
  have hqd : 0 ≤ q * d := Int.mul_nonneg hq (Int.natCast_nonneg d)
  rw [roundDiv_of_nonneg (Int.le_trans hqd h), Int.le_ediv_iff_mul_le (by omega), Int.mul_left_comm]
  omega

theorem roundDiv_le {n q : Int} {d : Nat} (hd : 0 < d) (hq : q ≤ 0) (h : n ≤ q * d) : roundDiv n d ≤ q := by
  have mirrored : -q ≤ roundDiv (-n) d := le_roundDiv hd (by omega) (by rw [Int.neg_mul]; omega)
  rw [roundDiv_neg n hd] at mirrored
  exact Int.neg_le_neg_iff.mp mirrored

/-! ## The conversion (R59) -/

theorem convert_eq_of_roundDiv {cal : CalRecord} {r : BitVec 24} {q : Int}
    (h : roundDiv ((r.toInt - cal.zeroOffset) * cal.gain) 1048576 = q) (hlo : -1000000 ≤ q) (hhi : q ≤ 1000000) :
    convert cal r = q := by
  subst h
  exact clampInt_of_mem hlo hhi

/-- Settles O37: each clause is a fact of the rounding, brought through the clamp. -/
theorem samplesAreConverted : Obligations.SamplesAreConverted := by
  intro cal r p f
  have hd : 0 < 1048576 := by decide
  refine ⟨clampInt_le (by decide) _, le_clampInt _ _ _, ?nearest, ?half_above, ?half_below, ?top, ?bottom⟩
  case nearest =>
    intro q hlo hhi hnear
    exact convert_eq_of_roundDiv (roundDiv_eq_of_near hnear) hlo hhi
  case half_above =>
    intro q hq hhi hp
    exact convert_eq_of_roundDiv (roundDiv_half_above hd hq (by omega)) (by omega) hhi
  case half_below =>
    intro q hq hlo hp
    exact convert_eq_of_roundDiv (roundDiv_half_below hd hq (by omega)) hlo (by omega)
  case top =>
    intro hp
    exact clampInt_of_hi_le (by decide) (le_roundDiv hd (by decide) hp)
  case bottom =>
    intro hp
    exact clampInt_of_le_lo (roundDiv_le hd (by decide) hp)

end Sys2Proof.Machine
end

section
/-! PROOFS. The raise of an attention cause: the hold it sets, the rest text that follows, and the ATTENTION it queues
(R163, R166, R168). -/

namespace Sys2Proof.Machine

/-! ## The hold and the selection it makes (R163, R168) -/

theorem hold_iff (a : Attention) : a.hold = true ↔ a.causes ≠ [] := by simp [Attention.hold]

theorem listCause_hold (c : Cause) (n : Nat) (d : Option Int) (s : State) :
    (listCause c n d s).attention.hold = true :=
  (hold_iff _).mpr (List.append_ne_nil_of_right_ne_nil _ (List.cons_ne_nil c []))

theorem listCause_restSelection (c : Cause) (n : Nat) (d : Option Int) (s : State) :
    (listCause c n d s).restSelection = if s.lane.ready = true then .attendant else .closed := by
  have hlane : (listCause c n d s).lane = s.lane := (listCause_only c n d s).lane
  cases hr : s.lane.ready <;> simp [State.restSelection, listCause_hold, hlane, hr]

theorem listCause_primary (c : Cause) (n : Nat) (d : Option Int) (s : State) :
    (listCause c n d s).attention.primary =
      if s.attention.causes = [] then some ⟨s.now, s.saleNumber, n, d, false⟩ else s.attention.primary := by
  simp [listCause]

theorem listCause_nodup {c : Cause} {s : State} (n : Nat) (d : Option Int) (hc : c ∉ s.attention.causes)
    (h : s.attention.causes.Nodup) : (listCause c n d s).attention.causes.Nodup :=
  List.nodup_append.mpr ⟨h, List.pairwise_singleton _ c, fun _ ha _ hb heq => hc (List.mem_singleton.mp hb ▸ heq ▸ ha)⟩

/-! ## Messages to the display (R166, R175, R182) -/

theorem hasData_iff (s : State) (ch : ChannelId) :
    s.hasData ch = true ↔ ∃ i : Fin 16, s.bus.slots[i] = .assigned ch .data := by
  simp [State.hasData, dataSlots, List.filter_eq_nil_iff]

/-- A display message leaves of the bus all but the channels. -/
theorem offerDisplay_bus (m : List Byte) (s : State) :
    (offerDisplay m s).bus = { s.bus with channels := (offerDisplay m s).bus.channels } := by
  unfold offerDisplay; split
  · rfl
  · split <;> rfl

/-- With the display's channel there, room in its queue and no message held, a message joins the queue. -/
theorem offerDisplay_joins {m : List Byte} {s : State} (hp : s.present 2 = true) (hd : s.hasData 2 = true)
    (hw : s.attention.displayWaiting = none) (hroom : (s.channel 2).transmit.length < 4) :
    offerDisplay m s = joinTransmit 2 (.bytes m) s := by
  simp [offerDisplay, hp, hd, hw, State.transmitRoom, Config.transmitCapacity, hroom]

/-- With the display's channel there, and no room in its queue or a message held already, the message is held. -/
theorem offerDisplay_held {m : List Byte} {s : State} (hp : s.present 2 = true) (hd : s.hasData 2 = true)
    (h : s.attention.displayWaiting ≠ none ∨ 4 ≤ (s.channel 2).transmit.length) :
    offerDisplay m s = { s with attention := { s.attention with displayWaiting := some m } } := by
  have hfull : (s.attention.displayWaiting.isNone && s.transmitRoom 2) = false := by
    rwa [Bool.and_eq_false_iff, Option.isNone_eq_false_iff, ← Option.ne_none_iff_isSome, State.transmitRoom,
      decide_eq_false_iff_not, Nat.not_lt]
  simp [offerDisplay, hp, hd, hfull]

/-! ## The rest text that follows (R163) -/

theorem refreshRest_bus (s : State) :
    (refreshRest s).bus = { s.bus with channels := (refreshRest s).bus.channels } := by
  unfold refreshRest; split
  · rfl
  · split
    · exact offerDisplay_bus _ _
    · rfl

theorem refreshRest_frame (s : State) :
    refreshRest s = { s with
      bus := { s.bus with channels := (refreshRest s).bus.channels }
      attention := { s.attention with
        rest := s.restSelection
        displayWaiting := (refreshRest s).attention.displayWaiting } } := by
  rw [← refreshRest_bus, ← refreshRest_rest]
  exact refreshRest_only s

/-- Nothing is sent where a prompt is current or the selection is the text shown. -/
theorem refreshRest_recorded {s : State} (h : s.attention.current ≠ none ∨ s.attention.rest = s.restSelection) :
    refreshRest s = { s with attention := { s.attention with rest := s.restSelection } } := by
  unfold refreshRest; split
  · next hsame => rw [hsame]
  · next hnew =>
    have hcur : s.attention.current ≠ none := h.resolve_right (Ne.symm hnew)
    simp [hcur]

/-- A changed selection is sent while the prompt slot is empty. -/
theorem refreshRest_sent {s : State} (hcur : s.attention.current = none) (hnew : s.attention.rest ≠ s.restSelection) :
    refreshRest s = sendRest s := by
  simp [refreshRest, hcur, hnew.symm]

/-- The display message of a rest text (R163, 11.3). -/
def restMessage (r : RestText) (s : State) : List Byte :=
  displayMessage (BitVec.ofNat 8 r.entry.val) s.lane.promptTexts[r.entry].1 s.lane.promptTexts[r.entry].2

theorem sendRest_joins {s : State} (hp : s.present 2 = true) (hd : s.hasData 2 = true)
    (hw : s.attention.displayWaiting = none) (hroom : (s.channel 2).transmit.length < 4) :
    (sendRest s).bus = (joinTransmit 2 (.bytes (restMessage s.restSelection s)) s).bus
      ∧ (sendRest s).attention.displayWaiting = none := by
  have hjoins : sendRest s = joinTransmit 2 (.bytes (restMessage s.restSelection s))
      { s with attention := { s.attention with rest := s.restSelection } } := offerDisplay_joins hp hd hw hroom
  rw [hjoins]
  exact ⟨rfl, hw⟩

theorem sendRest_held {s : State} (hp : s.present 2 = true) (hd : s.hasData 2 = true)
    (h : s.attention.displayWaiting ≠ none ∨ 4 ≤ (s.channel 2).transmit.length) :
    (sendRest s).bus = s.bus
      ∧ (sendRest s).attention.displayWaiting = some (restMessage s.restSelection s) := by
  have hheld : sendRest s = { s with attention := { s.attention with
      rest := s.restSelection
      displayWaiting := some (restMessage s.restSelection s) } } := offerDisplay_held hp hd h
  rw [hheld]
  exact ⟨rfl, rfl⟩

/-! ## ATTENTION (R173, R186) -/

theorem waitingFrom_le (src : Source) (ws : List Waiter) : waitingFrom src ws ≤ ws.length :=
  List.length_filter_le _ _

/-- While fewer than 16 notices wait, a notice that is offered is queued or finds its place in the line. -/
theorem offerNotice_notified (src : Source) (n : Notice) {s : State}
    (h : s.link.waiters.length < Config.waitingNotices) : Notified n (offerNotice src n s) := by
  have hroom : waitingFrom src s.link.waiters < Config.waitingNotices := Nat.lt_of_le_of_lt (waitingFrom_le _ _) h
  unfold offerNotice; split
  · exact .inl (by simp)
  · refine .inr ⟨src, ?_⟩
    unfold waitNotice
    by_cases hold : (src.replaces && s.link.waiters.any (Waiter.isFrom src)) = true
    · obtain ⟨w, hw, hfrom⟩ := List.any_eq_true.mp (Bool.and_eq_true_iff.mp hold).2
      rw [if_pos hold]
      exact List.mem_map.mpr ⟨w, hw, if_pos hfrom⟩
    · rw [if_neg hold, if_pos hroom]
      exact List.mem_append_right _ (List.mem_singleton_self _)

theorem notifyAttention_notified {s : State} (h : FewWaiting s) :
    Notified (.attention (attentionReport s)) (notifyAttention s) :=
  offerNotice_notified _ _ (Nat.lt_of_le_of_lt h (by decide))

/-! ## The raise (R168) -/

theorem raiseCause_new {c : Cause} {s : State} (n : Nat) (d : Option Int) (hc : c ∉ s.attention.causes) :
    raiseCause c n d s = notifyAttention (refreshRest (listCause c n d s)) :=
  (raiseCause_cases c n d s).elim (fun h => absurd h.1 hc) And.right

theorem raiseCause_attention {c : Cause} {s : State} (n : Nat) (d : Option Int) (hc : c ∉ s.attention.causes) :
    (raiseCause c n d s).attention = (refreshRest (listCause c n d s)).attention := by
  rw [raiseCause_new n d hc, notifyAttention_attention]

theorem raiseCause_bus {c : Cause} {s : State} (n : Nat) (d : Option Int) (hc : c ∉ s.attention.causes) :
    (raiseCause c n d s).bus = (refreshRest (listCause c n d s)).bus := by
  rw [raiseCause_new n d hc, notifyAttention_bus]

theorem raiseCause_causes {c : Cause} {s : State} (n : Nat) (d : Option Int) (hc : c ∉ s.attention.causes) :
    (raiseCause c n d s).attention.causes = s.attention.causes ++ [c] := by
  rw [raiseCause_attention n d hc, refreshRest_frame]
  rfl

theorem raiseCause_nodup (c : Cause) (n : Nat) (d : Option Int) {s : State} (h : s.attention.causes.Nodup) :
    (raiseCause c n d s).attention.causes.Nodup := by
  obtain ⟨-, hsame⟩ | ⟨hc, -⟩ := raiseCause_cases c n d s
  · rwa [hsame]
  · rw [raiseCause_causes n d hc]
    exact listCause_nodup n d hc h

/-- All that a new cause changes: the list and its contexts, the rest text, the display's channel with the message held
for it, and the link. -/
theorem raiseCause_frame {c : Cause} {s : State} (n : Nat) (d : Option Int) (hc : c ∉ s.attention.causes) :
    raiseCause c n d s = { s with
      link := (raiseCause c n d s).link
      bus := { s.bus with channels := (raiseCause c n d s).bus.channels }
      attention := { s.attention with
        rest := if s.lane.ready = true then .attendant else .closed
        displayWaiting := (raiseCause c n d s).attention.displayWaiting
        causes := s.attention.causes ++ [c]
        primary := if s.attention.causes = [] then some ⟨s.now, s.saleNumber, n, d, false⟩ else s.attention.primary
        age := if c = .ageCheck then some ⟨s.saleNumber, n⟩ else s.attention.age } } := by
  have hlink := notifyAttention_only (refreshRest (listCause c n d s))
  have hrest := refreshRest_frame (listCause c n d s)
  rw [raiseCause_attention n d hc, raiseCause_bus n d hc, raiseCause_new n d hc, ← listCause_restSelection c n d s,
    ← listCause_primary c n d s]
  exact Eq.trans hlink
    (congrArg (fun t : State => { t with link := (notifyAttention (refreshRest (listCause c n d s))).link }) hrest)

theorem raiseCause_notified {c : Cause} {s : State} (n : Nat) (d : Option Int) (hc : c ∉ s.attention.causes)
    (h : FewWaiting s) : Notified (.attention (attentionReport (raiseCause c n d s))) (raiseCause c n d s) := by
  have hfew : FewWaiting (refreshRest (listCause c n d s)) := by
    rwa [FewWaiting, (refreshRest_only _).link]
  have hnote := notifyAttention_notified hfew
  rwa [attentionReport, raiseCause_attention n d hc, raiseCause_new n d hc]

/-- Settles O49: a cause not yet listed is listed, the rest text follows, and ATTENTION reports the list. -/
theorem causesAreRaisedInOrder : Obligations.CausesAreRaisedInOrder := by
  intro c n d s t
  refine ⟨hold_iff _, raiseCause_nodup c n d, ?listed, ?new⟩
  case listed =>
    exact fun hc => (raiseCause_cases c n d s).elim And.right fun h => absurd hc h.1
  case new =>
    intro hc rest row message display
    have hsel : (listCause c n d s).restSelection = rest := listCause_restSelection c n d s
    have hbus : t.bus = (refreshRest (listCause c n d s)).bus := raiseCause_bus n d hc
    have hattention : t.attention = (refreshRest (listCause c n d s)).attention := raiseCause_attention n d hc
    have hhold : t.attention.hold = true := (hold_iff _).mpr (by simp [t, raiseCause_causes n d hc])
    refine ⟨raiseCause_frame n d hc, hhold, ?recorded, ?sent, ?notified⟩
    case recorded =>
      intro h
      have hrec := refreshRest_recorded (s := listCause c n d s) (hsel.symm ▸ h)
      rw [hbus, hattention, hrec]
      exact ⟨rfl, rfl⟩
    case sent =>
      intro hready hcur hnew hpresent hslot
      have hdata : s.hasData 2 = true := (hasData_iff s 2).mpr hslot
      have hattendant : (listCause c n d s).restSelection = .attendant := hsel.trans (if_pos hready)
      have hsent := refreshRest_sent (s := listCause c n d s) hcur (hsel.symm ▸ hnew)
      rw [hbus, hattention, hsent]
      constructor
      · intro hwaiting hroom
        obtain ⟨hjoined, hnone⟩ := sendRest_joins (s := listCause c n d s) hpresent hdata hwaiting hroom
        rw [hjoined, hattendant]
        exact ⟨rfl, hnone⟩
      · intro hfull
        obtain ⟨hsame, hheld⟩ := sendRest_held (s := listCause c n d s) hpresent hdata hfull
        rw [hsame, hheld, hattendant]
        exact ⟨rfl, rfl⟩
    case notified =>
      intro hfew
      have hnote := raiseCause_notified n d hc hfew
      rwa [attentionReport, hhold] at hnote

end Sys2Proof.Machine
end
